-- ==== Sys2Proof/Word.lean ====
section
/-! DEFINITION. Word types and fixed-size byte groups (00_scope.md R10; 20_memory.md R60, R65).

`Word` is what one host access carries; `Byte` is one byte of the wire buffer. The groups of ten
and of five bytes are structures with one field a byte: their length cannot change (10_state.md
R28, "never resizable"). -/

namespace Sys2Proof

/-- One byte (00_scope.md R10). -/
abbrev Byte := BitVec 8

/-- One 32-bit register as the host port carries it (20_memory.md R60). -/
abbrev Word := BitVec 32

/-- Ten bytes, index 0 to 9: `BUF`, `STAGE` and `TXBUF` (10_state.md R27, R28, R47). -/
structure Bytes10 where
  b0 : Byte
  b1 : Byte
  b2 : Byte
  b3 : Byte
  b4 : Byte
  b5 : Byte
  b6 : Byte
  b7 : Byte
  b8 : Byte
  b9 : Byte
  deriving DecidableEq, Repr

/-- Five bytes, index 0 to 4: `CMD_ADDR` and `DEC_ADDR` (10_state.md R30, R31). -/
structure Bytes5 where
  a0 : Byte
  a1 : Byte
  a2 : Byte
  a3 : Byte
  a4 : Byte
  deriving DecidableEq, Repr

end Sys2Proof
end

