-- ==== Sys2Proof/Config.lean ====
section
/-! DEFINITION. What a build fixes, and the free values (00_scope.md R7, R8; 93_implementation_defined.md).

The parameters that the spec gives a default are data (`BuildParams`), held in `State.build`, so that
a statement about every state speaks of every build (log 5). What has no value in the spec is a
constant without a body: nothing can be proved of its value. -/

namespace Sys2Proof

/-- The build parameters of 00_scope.md R7 that have a default. -/
structure BuildParams where
  /-- HIGH_COUNT: ticks of an ON segment. -/
  highCount : BitVec 8
  /-- TRAIL_COUNT: the last ticks of an ON segment, driven OFF. -/
  trailCount : BitVec 8
  /-- LOW_COUNT: ticks of a 0 bit. -/
  lowCount : BitVec 8
  /-- GAP_COUNT: ticks of one gap unit. -/
  gapCount : BitVec 8
  /-- MAX_PULSES: the capacity of PMEM. -/
  maxPulses : BitVec 16
  deriving DecidableEq, Repr

/-- The constraints of 00_scope.md R7: `1 <= TRAIL_COUNT < HIGH_COUNT`, `LOW_COUNT`, `GAP_COUNT` and
`MAX_PULSES` at least 1 (the upper bounds are the widths). -/
def BuildParams.wf (b : BuildParams) : Bool :=
  decide (1 ≤ b.trailCount.toNat) && decide (b.trailCount.toNat < b.highCount.toNat) &&
    decide (1 ≤ b.lowCount.toNat) && decide (1 ≤ b.gapCount.toNat) && decide (1 ≤ b.maxPulses.toNat)

/-- The defaults of 00_scope.md R7. -/
def Config.defaultBuild : BuildParams where
  highCount := 4
  trailCount := 2
  lowCount := 7
  gapCount := 72
  maxPulses := 1600

/-- NIBBLE_TABLE, the sixteen code words: OPEN, no value in the spec (00_scope.md R8, 42_nibble.md R201,
R202). No body: no property of the entries can be used (log 4). -/
opaque Config.nibbleTable : BitVec 4 → Byte

/-- The value of the `n`-th read that 20_memory.md R69 lets return any value (log 3). Free value. -/
opaque Config.freeRead : Nat → Word

/-- `on` of a PMEM entry that holds no value a rule gives, by epoch and index (10_state.md R38,
93_implementation_defined.md U1, U2; log 6). Free value. -/
opaque Config.freePulseOn : Nat → Nat → BitVec 32

/-- `off` of a PMEM entry that holds no value a rule gives (log 6). Free value. -/
opaque Config.freePulseOff : Nat → Nat → BitVec 32

/-- `dur` of a PMEM entry that holds no value a rule gives (log 6). Free value. -/
opaque Config.freePulseDur : Nat → Nat → BitVec 64

end Sys2Proof
end

