-- ==== Sys2Proof/Syntax.lean ====
section
/-! DEFINITION. The instructions: one constructor for each row of spec/opcode_table.json.

The table has four formats (30_encoding.md R83, R87, R89, R93). An operation word is written to OP; a
command kind selects what ENCODE does; a decode key selects what DECODE does; a builder state selects
the builder's next step (log 1). An operand is what the row's mask leaves open, the ignored bits
included, so that no bit of a word is dropped. -/

namespace Sys2Proof

/-- One row of spec/opcode_table.json with its operands. -/
inductive Instr where
  /-- NOP, 40_buffer_ops.md R121. -/
  | nop (ign : BitVec 24)
  /-- PUSHB, R122: the byte to stage, then the ignored bits [31:16]. -/
  | pushb (imm : Byte) (ign : BitVec 16)
  /-- LOADBUF, R123. -/
  | loadbuf (ign : BitVec 24)
  /-- ENCODE, 41_codec.md R140. -/
  | encode (ign : BitVec 24)
  /-- DECODE, R161. -/
  | decode (ign : BitVec 24)
  /-- BUILD, 43_waveform.md R210. -/
  | build (ign : BitVec 24)
  /-- Reserved opcodes 0x06..0x07, 40_buffer_ops.md R124: the low opcode bit, the ignored bits. -/
  | illegal06to07 (lo : BitVec 1) (ign : BitVec 24)
  /-- Reserved opcodes 0x08..0x0F, R124. -/
  | illegal08to0F (lo : BitVec 3) (ign : BitVec 24)
  /-- Reserved opcodes 0x10..0x1F, R124. -/
  | illegal10to1F (lo : BitVec 4) (ign : BitVec 24)
  /-- Reserved opcodes 0x20..0x3F, R124. -/
  | illegal20to3F (lo : BitVec 5) (ign : BitVec 24)
  /-- Reserved opcodes 0x40..0x7F, R124. -/
  | illegal40to7F (lo : BitVec 6) (ign : BitVec 24)
  /-- Reserved opcodes 0x80..0xFF, R124. -/
  | illegal80toFF (lo : BitVec 7) (ign : BitVec 24)
  /-- ENCODE of kind On, 41_codec.md R141. -/
  | encOn
  /-- ENCODE of kind Off, R142. -/
  | encOff
  /-- ENCODE of kind Dim, R143. -/
  | encDim
  /-- ENCODE of kind Increase, R144. -/
  | encIncrease
  /-- ENCODE of kind Decrease, R145. -/
  | encDecrease
  /-- ENCODE of kind Mood, R146. -/
  | encMood
  /-- ENCODE of kind AllOn, R147. -/
  | encAllOn
  /-- ENCODE of kind AllOff, R148. -/
  | encAllOff
  /-- ENCODE of an unmapped kind 8..15, R149: the low three bits of the kind. -/
  | encUnmapped (lo : BitVec 3)
  /-- DECODE row D0_OFF, class 0, param 0..127, R162. -/
  | d0Off (p : BitVec 7)
  /-- Row D0_DIM, class 0, param 128..159, R163. -/
  | d0Dim (p : BitVec 5)
  /-- Row D0_DECREASE, class 0, param 160..191, R164. -/
  | d0Decrease (p : BitVec 5)
  /-- Row D0_ALLOFF, class 0, param 192..255, R165. -/
  | d0AllOff (p : BitVec 6)
  /-- Row D1_ON, class 1, param 0..31, R166. -/
  | d1On (p : BitVec 5)
  /-- Row D1_DIM32, class 1, param 32..63, R167. -/
  | d1Dim32 (p : BitVec 5)
  /-- Row D1_DIM64, class 1, param 64..95, R168. -/
  | d1Dim64 (p : BitVec 5)
  /-- Row D1_DIM96, class 1, param 96..127, R169. -/
  | d1Dim96 (p : BitVec 5)
  /-- Row D1_DIM128, class 1, param 128..159, R170. -/
  | d1Dim128 (p : BitVec 5)
  /-- Row D1_INCREASE, class 1, param 160..191, R171. -/
  | d1Increase (p : BitVec 5)
  /-- Row D1_ALLON192, class 1, param 192..223, R172. -/
  | d1AllOn192 (p : BitVec 5)
  /-- Row D1_ALLON224, class 1, param 224..255, R173. -/
  | d1AllOn224 (p : BitVec 5)
  /-- Row D2_MOOD_LO, class 2, R174: the whole param, which must lie in 2..129 (WellFormed). -/
  | d2MoodLo (param : Byte)
  /-- Row D2_MOOD_HI, class 2, R175: the whole param, which must lie in 130..255 (WellFormed). -/
  | d2MoodHi (param : Byte)
  /-- Row D2_ERR, class 2, param 0..1, R176. -/
  | d2Err (p : BitVec 1)
  /-- Row DX_ERR, class 3, R177. -/
  | dxErr03 (param : Byte)
  /-- Row DX_ERR, class 4..7, R177: the low class bits, the param. -/
  | dxErr04to07 (c : BitVec 2) (param : Byte)
  /-- Row DX_ERR, class 8..15, R177. -/
  | dxErr08to0F (c : BitVec 3) (param : Byte)
  /-- Row DX_ERR, class 16..31, R177. -/
  | dxErr10to1F (c : BitVec 4) (param : Byte)
  /-- Row DX_ERR, class 32..63, R177. -/
  | dxErr20to3F (c : BitVec 5) (param : Byte)
  /-- Row DX_ERR, class 64..127, R177. -/
  | dxErr40to7F (c : BitVec 6) (param : Byte)
  /-- Row DX_ERR, class 128..255, R177. -/
  | dxErr80toFF (c : BitVec 7) (param : Byte)
  /-- Builder step MessageStart, 43_waveform.md R222. -/
  | stMessageStart
  /-- Builder step ByteStart, R223. -/
  | stByteStart
  /-- Builder step SendByte, R224. -/
  | stSendByte
  /-- Builder step MessageEnd, R225. -/
  | stMessageEnd
  /-- Builder step GapStart, R226. -/
  | stGapStart
  /-- Builder step GapEnd, R227. -/
  | stGapEnd
  /-- Builder state Idle: no step (R220, R228). -/
  | stIdle
  deriving DecidableEq, Repr

/-- An encoded instruction in the format its row has (30_encoding.md R83, R87, R93, R89). -/
inductive Encoded where
  /-- A word written to OP (R83). -/
  | opWord (w : Word)
  /-- A command kind code, `CMD_KIND` (R87). -/
  | cmdKind (k : BitVec 4)
  /-- A decode key, class in bits [15:8], param in [7:0] (R93). -/
  | decodeKey (k : BitVec 16)
  /-- A builder state code, `ST` (R89). -/
  | builderState (c : BitVec 3)
  deriving DecidableEq, Repr

/-- Why a code is no instruction. -/
inductive DecodeError where
  /-- Builder state code 7, which is never entered (30_encoding.md R89). -/
  | builderStateNeverEntered
  deriving DecidableEq, Repr

/-- The bits a row of spec/opcode_table.json fixes: `len` bits from bit `lo` hold `value`. -/
structure FixedBits where
  lo : Nat
  len : Nat
  value : Nat
  deriving DecidableEq, Repr

end Sys2Proof
end

