-- ==== Sys2Proof/WellFormed.lean ====
section
/-! DEFINITION. Which instructions are well formed.

Operand widths are in the types. The two mood rows are not power-of-two blocks (30_encoding.md R93),
so their param range is checked here. -/

namespace Sys2Proof

/-- The operand ranges that the types do not carry: rows D2_MOOD_LO (param 2..129) and D2_MOOD_HI
(param 130..255), 30_encoding.md R93. -/
def Instr.wf : Instr → Bool
  | .nop _ => true
  | .pushb _ _ => true
  | .loadbuf _ => true
  | .encode _ => true
  | .decode _ => true
  | .build _ => true
  | .illegal06to07 _ _ => true
  | .illegal08to0F _ _ => true
  | .illegal10to1F _ _ => true
  | .illegal20to3F _ _ => true
  | .illegal40to7F _ _ => true
  | .illegal80toFF _ _ => true
  | .encOn => true
  | .encOff => true
  | .encDim => true
  | .encIncrease => true
  | .encDecrease => true
  | .encMood => true
  | .encAllOn => true
  | .encAllOff => true
  | .encUnmapped _ => true
  | .d0Off _ => true
  | .d0Dim _ => true
  | .d0Decrease _ => true
  | .d0AllOff _ => true
  | .d1On _ => true
  | .d1Dim32 _ => true
  | .d1Dim64 _ => true
  | .d1Dim96 _ => true
  | .d1Dim128 _ => true
  | .d1Increase _ => true
  | .d1AllOn192 _ => true
  | .d1AllOn224 _ => true
  | .d2MoodLo p => decide (2 ≤ p.toNat) && decide (p.toNat ≤ 129)
  | .d2MoodHi p => decide (130 ≤ p.toNat)
  | .d2Err _ => true
  | .dxErr03 _ => true
  | .dxErr04to07 _ _ => true
  | .dxErr08to0F _ _ => true
  | .dxErr10to1F _ _ => true
  | .dxErr20to3F _ _ => true
  | .dxErr40to7F _ _ => true
  | .dxErr80toFF _ _ => true
  | .stMessageStart => true
  | .stByteStart => true
  | .stSendByte => true
  | .stMessageEnd => true
  | .stGapStart => true
  | .stGapEnd => true
  | .stIdle => true

end Sys2Proof
end

