-- ==== Sys2Proof/Decode.lean ====
section
/-! DEFINITION. Decoding and encoding (30_encoding.md R83 to R89, R93; spec/opcode_table.json).

Rows are told apart by the bits the table fixes. Decoding is total: the one code that is no
instruction, builder state 7, is refused by name. -/

namespace Sys2Proof

/-- The instruction of a word written to OP: `OPCODE` is bits [7:0], `IMM8` bits [15:8]; the rest is
ignored (30_encoding.md R83, R84, R86; reserved opcodes R85). -/
def decodeOp (w : Word) : Instr :=
  let opcode : Byte := w.extractLsb' 0 8
  let ign : BitVec 24 := w.extractLsb' 8 24
  if opcode = 0x00 then .nop ign
  else if opcode = 0x01 then .pushb (w.extractLsb' 8 8) (w.extractLsb' 16 16)
  else if opcode = 0x02 then .loadbuf ign
  else if opcode = 0x03 then .encode ign
  else if opcode = 0x04 then .decode ign
  else if opcode = 0x05 then .build ign
  else if opcode.extractLsb' 1 7 = 3 then .illegal06to07 (opcode.extractLsb' 0 1) ign
  else if opcode.extractLsb' 3 5 = 1 then .illegal08to0F (opcode.extractLsb' 0 3) ign
  else if opcode.extractLsb' 4 4 = 1 then .illegal10to1F (opcode.extractLsb' 0 4) ign
  else if opcode.extractLsb' 5 3 = 1 then .illegal20to3F (opcode.extractLsb' 0 5) ign
  else if opcode.extractLsb' 6 2 = 1 then .illegal40to7F (opcode.extractLsb' 0 6) ign
  else .illegal80toFF (opcode.extractLsb' 0 7) ign

/-- The ENCODE sub-operation of a kind code (30_encoding.md R87, R88). -/
def decodeKind (k : BitVec 4) : Instr :=
  if k = 0 then .encOn
  else if k = 1 then .encOff
  else if k = 2 then .encDim
  else if k = 3 then .encIncrease
  else if k = 4 then .encDecrease
  else if k = 5 then .encMood
  else if k = 6 then .encAllOn
  else if k = 7 then .encAllOff
  else .encUnmapped (k.extractLsb' 0 3)

/-- The DECODE row of a key, class in bits [15:8], param in [7:0] (30_encoding.md R93). -/
def decodeKey (k : BitVec 16) : Instr :=
  let param : Byte := k.extractLsb' 0 8
  if k.extractLsb' 7 9 = 0 then .d0Off (k.extractLsb' 0 7)
  else if k.extractLsb' 5 11 = 4 then .d0Dim (k.extractLsb' 0 5)
  else if k.extractLsb' 5 11 = 5 then .d0Decrease (k.extractLsb' 0 5)
  else if k.extractLsb' 6 10 = 3 then .d0AllOff (k.extractLsb' 0 6)
  else if k.extractLsb' 5 11 = 8 then .d1On (k.extractLsb' 0 5)
  else if k.extractLsb' 5 11 = 9 then .d1Dim32 (k.extractLsb' 0 5)
  else if k.extractLsb' 5 11 = 10 then .d1Dim64 (k.extractLsb' 0 5)
  else if k.extractLsb' 5 11 = 11 then .d1Dim96 (k.extractLsb' 0 5)
  else if k.extractLsb' 5 11 = 12 then .d1Dim128 (k.extractLsb' 0 5)
  else if k.extractLsb' 5 11 = 13 then .d1Increase (k.extractLsb' 0 5)
  else if k.extractLsb' 5 11 = 14 then .d1AllOn192 (k.extractLsb' 0 5)
  else if k.extractLsb' 5 11 = 15 then .d1AllOn224 (k.extractLsb' 0 5)
  else if k.extractLsb' 1 15 = 256 then .d2Err (k.extractLsb' 0 1)
  else if k.extractLsb' 8 8 = 2 then
    if param.toNat ≤ 129 then .d2MoodLo param else .d2MoodHi param
  else if k.extractLsb' 8 8 = 3 then .dxErr03 param
  else if k.extractLsb' 10 6 = 1 then .dxErr04to07 (k.extractLsb' 8 2) param
  else if k.extractLsb' 11 5 = 1 then .dxErr08to0F (k.extractLsb' 8 3) param
  else if k.extractLsb' 12 4 = 1 then .dxErr10to1F (k.extractLsb' 8 4) param
  else if k.extractLsb' 13 3 = 1 then .dxErr20to3F (k.extractLsb' 8 5) param
  else if k.extractLsb' 14 2 = 1 then .dxErr40to7F (k.extractLsb' 8 6) param
  else .dxErr80toFF (k.extractLsb' 8 7) param

/-- The builder step of a state code; code 7 is never entered (30_encoding.md R89). -/
def decodeState (c : BitVec 3) : Except DecodeError Instr :=
  if c = 0 then .ok .stIdle
  else if c = 1 then .ok .stMessageStart
  else if c = 2 then .ok .stByteStart
  else if c = 3 then .ok .stSendByte
  else if c = 4 then .ok .stMessageEnd
  else if c = 5 then .ok .stGapStart
  else if c = 6 then .ok .stGapEnd
  else .error .builderStateNeverEntered

/-- The decoder of all four formats. -/
def decode : Encoded → Except DecodeError Instr
  | .opWord w => .ok (decodeOp w)
  | .cmdKind k => .ok (decodeKind k)
  | .decodeKey k => .ok (decodeKey k)
  | .builderState c => decodeState c

/-- An operation word from its opcode and its bits [31:8] (30_encoding.md R83). -/
def opWordOf (opcode : Byte) (rest : BitVec 24) : Word :=
  BitVec.ofNat 32 (opcode.toNat + 256 * rest.toNat)

/-- Bits [31:8] of a PUSHB word: `IMM8`, then the ignored bits (30_encoding.md R83). -/
def immBits (imm : Byte) (ign : BitVec 16) : BitVec 24 :=
  BitVec.ofNat 24 (imm.toNat + 256 * ign.toNat)

/-- A decode key from class and param (30_encoding.md R93). -/
def keyOf (cls param : Byte) : BitVec 16 :=
  BitVec.ofNat 16 (256 * cls.toNat + param.toNat)

/-- `base` with the operand `v` added in its open low bits: an opcode, a kind, a class or a param of a
block of the table. -/
def blockByte (base : Byte) {n : Nat} (v : BitVec n) : Byte :=
  BitVec.ofNat 8 (base.toNat + v.toNat)

/-- The encoder of a well-formed instruction, from the table's matches. -/
def encode : Instr → Encoded
  | .nop ign => .opWord (opWordOf 0x00 ign)
  | .pushb imm ign => .opWord (opWordOf 0x01 (immBits imm ign))
  | .loadbuf ign => .opWord (opWordOf 0x02 ign)
  | .encode ign => .opWord (opWordOf 0x03 ign)
  | .decode ign => .opWord (opWordOf 0x04 ign)
  | .build ign => .opWord (opWordOf 0x05 ign)
  | .illegal06to07 lo ign => .opWord (opWordOf (blockByte 0x06 lo) ign)
  | .illegal08to0F lo ign => .opWord (opWordOf (blockByte 0x08 lo) ign)
  | .illegal10to1F lo ign => .opWord (opWordOf (blockByte 0x10 lo) ign)
  | .illegal20to3F lo ign => .opWord (opWordOf (blockByte 0x20 lo) ign)
  | .illegal40to7F lo ign => .opWord (opWordOf (blockByte 0x40 lo) ign)
  | .illegal80toFF lo ign => .opWord (opWordOf (blockByte 0x80 lo) ign)
  | .encOn => .cmdKind 0
  | .encOff => .cmdKind 1
  | .encDim => .cmdKind 2
  | .encIncrease => .cmdKind 3
  | .encDecrease => .cmdKind 4
  | .encMood => .cmdKind 5
  | .encAllOn => .cmdKind 6
  | .encAllOff => .cmdKind 7
  | .encUnmapped lo => .cmdKind (BitVec.ofNat 4 (8 + lo.toNat))
  | .d0Off p => .decodeKey (keyOf 0 (blockByte 0 p))
  | .d0Dim p => .decodeKey (keyOf 0 (blockByte 128 p))
  | .d0Decrease p => .decodeKey (keyOf 0 (blockByte 160 p))
  | .d0AllOff p => .decodeKey (keyOf 0 (blockByte 192 p))
  | .d1On p => .decodeKey (keyOf 1 (blockByte 0 p))
  | .d1Dim32 p => .decodeKey (keyOf 1 (blockByte 32 p))
  | .d1Dim64 p => .decodeKey (keyOf 1 (blockByte 64 p))
  | .d1Dim96 p => .decodeKey (keyOf 1 (blockByte 96 p))
  | .d1Dim128 p => .decodeKey (keyOf 1 (blockByte 128 p))
  | .d1Increase p => .decodeKey (keyOf 1 (blockByte 160 p))
  | .d1AllOn192 p => .decodeKey (keyOf 1 (blockByte 192 p))
  | .d1AllOn224 p => .decodeKey (keyOf 1 (blockByte 224 p))
  | .d2MoodLo param => .decodeKey (keyOf 2 param)
  | .d2MoodHi param => .decodeKey (keyOf 2 param)
  | .d2Err p => .decodeKey (keyOf 2 (blockByte 0 p))
  | .dxErr03 param => .decodeKey (keyOf 3 param)
  | .dxErr04to07 c param => .decodeKey (keyOf (blockByte 4 c) param)
  | .dxErr08to0F c param => .decodeKey (keyOf (blockByte 8 c) param)
  | .dxErr10to1F c param => .decodeKey (keyOf (blockByte 16 c) param)
  | .dxErr20to3F c param => .decodeKey (keyOf (blockByte 32 c) param)
  | .dxErr40to7F c param => .decodeKey (keyOf (blockByte 64 c) param)
  | .dxErr80toFF c param => .decodeKey (keyOf (blockByte 128 c) param)
  | .stMessageStart => .builderState 1
  | .stByteStart => .builderState 2
  | .stSendByte => .builderState 3
  | .stMessageEnd => .builderState 4
  | .stGapStart => .builderState 5
  | .stGapEnd => .builderState 6
  | .stIdle => .builderState 0

/-- The code as a number, bit 0 least significant, as spec/opcode_table.json numbers bits. -/
def Encoded.toNat : Encoded → Nat
  | .opWord w => w.toNat
  | .cmdKind k => k.toNat
  | .decodeKey k => k.toNat
  | .builderState c => c.toNat

/-- The bits that the instruction's row of spec/opcode_table.json fixes ("match" and "mask"). -/
def Instr.tableFixed : Instr → FixedBits
  | .nop _ => ⟨0, 8, 0⟩
  | .pushb _ _ => ⟨0, 8, 1⟩
  | .loadbuf _ => ⟨0, 8, 2⟩
  | .encode _ => ⟨0, 8, 3⟩
  | .decode _ => ⟨0, 8, 4⟩
  | .build _ => ⟨0, 8, 5⟩
  | .illegal06to07 _ _ => ⟨1, 7, 3⟩
  | .illegal08to0F _ _ => ⟨3, 5, 1⟩
  | .illegal10to1F _ _ => ⟨4, 4, 1⟩
  | .illegal20to3F _ _ => ⟨5, 3, 1⟩
  | .illegal40to7F _ _ => ⟨6, 2, 1⟩
  | .illegal80toFF _ _ => ⟨7, 1, 1⟩
  | .encOn => ⟨0, 4, 0⟩
  | .encOff => ⟨0, 4, 1⟩
  | .encDim => ⟨0, 4, 2⟩
  | .encIncrease => ⟨0, 4, 3⟩
  | .encDecrease => ⟨0, 4, 4⟩
  | .encMood => ⟨0, 4, 5⟩
  | .encAllOn => ⟨0, 4, 6⟩
  | .encAllOff => ⟨0, 4, 7⟩
  | .encUnmapped _ => ⟨3, 1, 1⟩
  | .d0Off _ => ⟨7, 9, 0⟩
  | .d0Dim _ => ⟨5, 11, 4⟩
  | .d0Decrease _ => ⟨5, 11, 5⟩
  | .d0AllOff _ => ⟨6, 10, 3⟩
  | .d1On _ => ⟨5, 11, 8⟩
  | .d1Dim32 _ => ⟨5, 11, 9⟩
  | .d1Dim64 _ => ⟨5, 11, 10⟩
  | .d1Dim96 _ => ⟨5, 11, 11⟩
  | .d1Dim128 _ => ⟨5, 11, 12⟩
  | .d1Increase _ => ⟨5, 11, 13⟩
  | .d1AllOn192 _ => ⟨5, 11, 14⟩
  | .d1AllOn224 _ => ⟨5, 11, 15⟩
  | .d2MoodLo _ => ⟨8, 8, 2⟩
  | .d2MoodHi _ => ⟨8, 8, 2⟩
  | .d2Err _ => ⟨1, 15, 256⟩
  | .dxErr03 _ => ⟨8, 8, 3⟩
  | .dxErr04to07 _ _ => ⟨10, 6, 1⟩
  | .dxErr08to0F _ _ => ⟨11, 5, 1⟩
  | .dxErr10to1F _ _ => ⟨12, 4, 1⟩
  | .dxErr20to3F _ _ => ⟨13, 3, 1⟩
  | .dxErr40to7F _ _ => ⟨14, 2, 1⟩
  | .dxErr80toFF _ _ => ⟨15, 1, 1⟩
  | .stMessageStart => ⟨0, 3, 1⟩
  | .stByteStart => ⟨0, 3, 2⟩
  | .stSendByte => ⟨0, 3, 3⟩
  | .stMessageEnd => ⟨0, 3, 4⟩
  | .stGapStart => ⟨0, 3, 5⟩
  | .stGapEnd => ⟨0, 3, 6⟩
  | .stIdle => ⟨0, 3, 0⟩

/-- The format that a width and a number of spec/opcode_table.json stand for: 3 bits a builder state,
4 bits a kind, 16 bits a decode key, 32 bits an operation word. In one byte the table has operation
words (opcodes 0..5), kinds and builder states with the same numbers; 0..5 is read as the operation
word, 6..15 as the kind, the rest as the operation word (log 16). -/
def tableFormat (nbits w : Nat) : Encoded :=
  if nbits = 3 then .builderState (BitVec.ofNat 3 w)
  else if nbits = 4 then .cmdKind (BitVec.ofNat 4 w)
  else if nbits ≤ 8 then
    if 6 ≤ w ∧ w ≤ 15 then .cmdKind (BitVec.ofNat 4 w) else .opWord (BitVec.ofNat 32 w)
  else if nbits ≤ 16 then .decodeKey (BitVec.ofNat 16 w)
  else .opWord (BitVec.ofNat 32 w)

/-- The instruction of a word of spec/opcode_table.json; none where the decoder refuses. -/
def decodeTableWord (nbits w : Nat) : Option Instr :=
  match decode (tableFormat nbits w) with
  | .ok i => some i
  | .error _ => none

end Sys2Proof
end

