-- ==== Sys2Proof/Machine/State.lean ====
section
/-! DEFINITION. The state of the block, its faults, its reset (10_state.md; 70_reset_and_hazards.md R290).

Every piece of state of 10_state.md R20 is a field under its own name. The last fields are the build's
constants, the OP write held at the port, and the model's own fields for the environment (INVENTORY.md
'## State'). -/

namespace Sys2Proof.Machine

/-- Why a step stops. The spec has no stop (60_exceptions.md R270, R271). -/
inductive Fault where
  /-- Raised by SendByte alone, when `BI` is above 9, where `TXBUF[BI]` does not exist (10_state.md R45,
  R47). No reachable state (R52). Safe: the model stops where the spec says nothing (log 11). -/
  | byteIndexOutOfRange
  deriving DecidableEq, Repr

/-- Why an instruction has no meaning. -/
inductive Refusal where
  /-- Raised by an arm of `exec` whose instruction has no meaning yet; no arm of this model. Safe. -/
  | notModelled (mnemonic : String)
  deriving DecidableEq, Repr

/-- The builder states of 30_encoding.md R89. Code 7 is never entered and is not represented (log 18). -/
inductive BuilderState where
  | idle
  | messageStart
  | byteStart
  | sendByte
  | messageEnd
  | gapStart
  | gapEnd
  deriving DecidableEq, Repr

/-- The error codes 0 to 6 of 30_encoding.md R90. Codes 7..15 are never produced (log 18). -/
inductive ErrCode where
  /-- 0, NONE. -/
  | noError
  /-- 1, ValidationError. -/
  | validation
  /-- 2, DecodingError. -/
  | decoding
  /-- 3, EncodingError. -/
  | encoding
  /-- 4, CapacityExceeded. -/
  | capacity
  /-- 5, DeviceError: the driver's, never raised by the block (60_exceptions.md R266). -/
  | device
  /-- 6, IllegalOpcode. -/
  | illegalOpcode
  deriving DecidableEq, Repr

/-- The level a pulse drives the pin to (43_waveform.md R233). -/
inductive Level where
  | on
  | off
  deriving DecidableEq, Repr

/-- One pulse entry (10_state.md R38, 30_encoding.md R96). -/
structure Pulse where
  on : BitVec 32
  off : BitVec 32
  dur : BitVec 64
  deriving DecidableEq, Repr

/-- PMEM: the entries written, by index, indices strictly rising. An unlisted entry holds no value a rule
gives and reads as a free value (`pmemRead`; log 6). -/
abbrev PulseMem := List (Nat × Pulse)

/-- The configuration a BUILD latches (10_state.md R48). -/
structure Latch where
  pin : BitVec 5
  period : BitVec 16
  repeats : BitVec 8
  gapMult : BitVec 8
  invert : Bool
  trailing : Bool
  deriving DecidableEq, Repr

/-- The host-visible registers (10_state.md R21). -/
inductive Reg where
  | op
  | status
  | errInfo
  | stageLen
  | bufW0
  | bufW1
  | bufW2
  | cmdKind
  | cmdValue
  | cmdDevice
  | cmdAddrLo
  | cmdAddrHi
  | cmdRoom
  | decKind
  | decValue
  | decDevice
  | decAddrLo
  | decAddrHi
  | decRoom
  | decClass
  | decParam
  | cfgPin
  | cfgPeriod
  | cfgRepeats
  | cfgGapMult
  | cfgFlags
  | pulseCount
  | totalLo
  | totalHi
  | pidx
  | pOn
  | pOff
  | pDurLo
  | pDurHi
  | param0
  | param1
  deriving DecidableEq, Repr

/-- What the environment does next (20_memory.md R60, R68; 70_reset_and_hazards.md R293; log 2). -/
inductive Input where
  /-- The host reads the register at this index. -/
  | read (idx : BitVec 8)
  /-- The host writes this word to the register at this index. -/
  | write (idx : BitVec 8) (v : Word)
  /-- The builder has the turn: one builder step between two host accesses. -/
  | turn
  /-- The platform's reset input. -/
  | reset
  deriving DecidableEq, Repr

/-- What one host read returned (log 20). -/
structure ReadReply where
  idx : BitVec 8
  value : Word
  deriving DecidableEq, Repr

/-- The state of the block (10_state.md R20), of its port, and of the model's environment. -/
structure State where
  /-- `BUF[0..9]`, R28. -/
  buf : Bytes10
  /-- `BUF_VALID`, R29. -/
  bufValid : Bool
  /-- `STAGE[0..9]`, R27. -/
  stage : Bytes10
  /-- `STAGE_LEN`, R27. -/
  stageLen : BitVec 8
  /-- `CMD_KIND`, R30. -/
  cmdKind : BitVec 4
  /-- `CMD_VALUE`, R30. -/
  cmdValue : Byte
  /-- `CMD_DEVICE`, R30. -/
  cmdDevice : Byte
  /-- `CMD_ADDR[0..4]`, R30. -/
  cmdAddr : Bytes5
  /-- `CMD_ROOM`, R30. -/
  cmdRoom : Byte
  /-- `DEC_KIND`, R31. -/
  decKind : BitVec 4
  /-- `DEC_VALUE`, R31. -/
  decValue : Byte
  /-- `DEC_DEVICE`, R31. -/
  decDevice : Byte
  /-- `DEC_ADDR[0..4]`, R31. -/
  decAddr : Bytes5
  /-- `DEC_ROOM`, R31. -/
  decRoom : Byte
  /-- `DEC_CLASS`, R32. -/
  decClass : Byte
  /-- `DEC_PARAM`, R32. -/
  decParam : Byte
  /-- `DEC_VALID`, R32. -/
  decValid : Bool
  /-- `CFG_PIN`, R33. -/
  cfgPin : BitVec 5
  /-- `CFG_PERIOD`, R34. -/
  cfgPeriod : BitVec 16
  /-- `CFG_REPEATS`, R35. -/
  cfgRepeats : BitVec 8
  /-- `CFG_GAPMULT`, R36. -/
  cfgGapMult : BitVec 8
  /-- `CFG_FLAGS`, R37: bit 0 TRANSLATE, bit 1 INVERT, bit 2 TRAILING_GAP. -/
  cfgFlags : BitVec 3
  /-- `PMEM`, R38. -/
  pmem : PulseMem
  /-- `PULSE_COUNT`, R39. -/
  pulseCount : BitVec 16
  /-- `TOTAL`, R40. -/
  total : BitVec 64
  /-- `WAVE_VALID`, R41. -/
  waveValid : Bool
  /-- `PIDX`, R42. -/
  pidx : BitVec 16
  /-- `BUSY`, R49. -/
  busy : Bool
  /-- `LAST_ERR`, R50. -/
  lastErr : ErrCode
  /-- `STICKY`, R50: bit `k-1` for error code `k`. -/
  sticky : BitVec 6
  /-- `ERRINFO`, R26. -/
  errInfo : Word
  /-- `ST`, R44. -/
  st : BuilderState
  /-- `BI`, R45. -/
  bi : BitVec 4
  /-- `BM`, R45. -/
  bm : Byte
  /-- `REP`, R46. -/
  rep : BitVec 8
  /-- `GR`, R46. -/
  gr : BitVec 8
  /-- `TXBUF[0..9]`, R47. -/
  txbuf : Bytes10
  /-- `LATCH`, R48. -/
  latch : Latch
  /-- The build parameters (00_scope.md R7; PARAM0, PARAM1, R43). No step changes them (log 5). -/
  build : BuildParams
  /-- The OP write held at the port while BUSY (20_memory.md R64; log 13). -/
  heldOp : Option Word
  /-- The environment's actions still to come, in order. The model's own field (log 2). -/
  inputs : List Input
  /-- The host's reads so far, newest first. The model's own field (log 20). -/
  replies : List ReadReply
  /-- Counts the free values handed to reads while BUSY. The model's own field (log 3). -/
  freeCount : Nat
  /-- Renews the free values of unlisted PMEM entries. The model's own field (log 6). -/
  pmemEpoch : Nat
  deriving DecidableEq, Repr

/-- What an `add_pulse` or a segment leaves: the builder step goes on, or the capacity abort has ended it
(43_waveform.md R221). -/
inductive Emit where
  | went (s : State)
  | aborted (s : State)
  deriving DecidableEq, Repr

/-- What the next step does (20_memory.md R68). -/
inductive Fetched where
  /-- Run this instruction in this state, the input or held word that named it taken. -/
  | instr (i : Instr) (s : State)
  /-- A register access or a reset, complete: the state after it. -/
  | done (s : State)
  deriving DecidableEq, Repr

/-- Ten zero bytes. -/
def Bytes10.zero : Bytes10 := ⟨0, 0, 0, 0, 0, 0, 0, 0, 0, 0⟩

/-- Five zero bytes. -/
def Bytes5.zero : Bytes5 := ⟨0, 0, 0, 0, 0⟩

/-- The reset values of 70_reset_and_hazards.md R290 for a build with parameters `b`. STAGE, TXBUF and LATCH,
which R290 leaves unspecified, are zero (logs 8, 9, 10); PMEM lists nothing (log 6). -/
def State.resetOf (b : BuildParams) : State where
  buf := Bytes10.zero
  bufValid := false
  stage := Bytes10.zero
  stageLen := 0
  cmdKind := 0
  cmdValue := 0
  cmdDevice := 0
  cmdAddr := Bytes5.zero
  cmdRoom := 0
  decKind := 15
  decValue := 0
  decDevice := 0
  decAddr := Bytes5.zero
  decRoom := 0
  decClass := 0
  decParam := 0
  decValid := false
  cfgPin := 0
  cfgPeriod := 140
  cfgRepeats := 10
  cfgGapMult := 0
  cfgFlags := 5
  pmem := []
  pulseCount := 0
  total := 0
  waveValid := false
  pidx := 0
  busy := false
  lastErr := .noError
  sticky := 0
  errInfo := 0
  st := .idle
  bi := 0
  bm := 0
  rep := 0
  gr := 0
  txbuf := Bytes10.zero
  latch := ⟨0, 0, 0, 0, false, false⟩
  build := b
  heldOp := none
  inputs := []
  replies := []
  freeCount := 0
  pmemEpoch := 0

/-- The machine right after reset, built with the defaults of 00_scope.md R7 (log 5). -/
def State.reset : State := State.resetOf Config.defaultBuild

end Sys2Proof.Machine
end

