-- ==== Sys2Proof/Machine/Operands.lean ====
section
/-! DEFINITION. Operand forms: bytes of a group, register lanes, the parameter's nibbles, kinds, masks,
durations, the nibble translation (20_memory.md R65, R66; 30_encoding.md R81, R87, R96; 42_nibble.md;
43_waveform.md R233, R234). -/

namespace Sys2Proof.Machine

/-- The bytes in index order. -/
def bytes (b : Bytes10) : List Byte :=
  [b.b0, b.b1, b.b2, b.b3, b.b4, b.b5, b.b6, b.b7, b.b8, b.b9]

/-- Byte `i` of a group of ten; none past the ninth. -/
def byteAt (b : Bytes10) (i : Nat) : Option Byte := (bytes b)[i]?

/-- A group of ten with byte `i` replaced; unchanged past the ninth. -/
def setByte (b : Bytes10) (i : Nat) (v : Byte) : Bytes10 :=
  match i with
  | 0 => ⟨v, b.b1, b.b2, b.b3, b.b4, b.b5, b.b6, b.b7, b.b8, b.b9⟩
  | 1 => ⟨b.b0, v, b.b2, b.b3, b.b4, b.b5, b.b6, b.b7, b.b8, b.b9⟩
  | 2 => ⟨b.b0, b.b1, v, b.b3, b.b4, b.b5, b.b6, b.b7, b.b8, b.b9⟩
  | 3 => ⟨b.b0, b.b1, b.b2, v, b.b4, b.b5, b.b6, b.b7, b.b8, b.b9⟩
  | 4 => ⟨b.b0, b.b1, b.b2, b.b3, v, b.b5, b.b6, b.b7, b.b8, b.b9⟩
  | 5 => ⟨b.b0, b.b1, b.b2, b.b3, b.b4, v, b.b6, b.b7, b.b8, b.b9⟩
  | 6 => ⟨b.b0, b.b1, b.b2, b.b3, b.b4, b.b5, v, b.b7, b.b8, b.b9⟩
  | 7 => ⟨b.b0, b.b1, b.b2, b.b3, b.b4, b.b5, b.b6, v, b.b8, b.b9⟩
  | 8 => ⟨b.b0, b.b1, b.b2, b.b3, b.b4, b.b5, b.b6, b.b7, v, b.b9⟩
  | 9 => ⟨b.b0, b.b1, b.b2, b.b3, b.b4, b.b5, b.b6, b.b7, b.b8, v⟩
  | _ => b

/-- A function of one byte applied to all ten. -/
def mapBytes (f : Byte → Byte) (b : Bytes10) : Bytes10 :=
  ⟨f b.b0, f b.b1, f b.b2, f b.b3, f b.b4, f b.b5, f b.b6, f b.b7, f b.b8, f b.b9⟩

/-- Bytes 4 to 8 of a wire buffer, the address (30_encoding.md R80). -/
def addrOf (b : Bytes10) : Bytes5 := ⟨b.b4, b.b5, b.b6, b.b7, b.b8⟩

/-- Four bytes in a register, the lowest-indexed in bits [7:0] (20_memory.md R65). -/
def lanes (k0 k1 k2 k3 : Byte) : Word :=
  BitVec.ofNat 32 (k0.toNat + 0x100 * k1.toNat + 0x10000 * k2.toNat + 0x1000000 * k3.toNat)

/-- The byte in lane `k`, bits [8k+7:8k] (20_memory.md R65). -/
def lane (v : Word) (k : Nat) : Byte := v.extractLsb' (8 * k) 8

/-- `BUF[0]` of a parameter: its high nibble (30_encoding.md R81). -/
def paramHigh (p : Byte) : Byte := p >>> 4

/-- `BUF[1]` of a parameter: its low nibble (R81). -/
def paramLow (p : Byte) : Byte := p &&& 0x0F

/-- DECODE's parameter: `((BUF[0] << 4) mod 256) | BUF[1]`, all of `BUF[1]` (41_codec.md R160,
90_conflicts.md C2). -/
def paramOf (b : Bytes10) : Byte := (b.b0 <<< 4) ||| b.b1

/-- The code word of a byte: NIBBLE_TABLE at its low nibble (42_nibble.md R200). -/
def xlate (b : Byte) : Byte := Config.nibbleTable (b.extractLsb' 0 4)

/-- The number of 1 bits of a byte. -/
def popcount (b : Byte) : Nat :=
  (b[0]).toNat + (b[1]).toNat + (b[2]).toNat + (b[3]).toNat +
    (b[4]).toNat + (b[5]).toNat + (b[6]).toNat + (b[7]).toNat

/-- `P`, the 1 bits sent per message (43_waveform.md, notation). -/
def popcount10 (b : Bytes10) : Nat := ((bytes b).map popcount).sum

/-- Kind codes of 30_encoding.md R87, and NONE of R88. -/
def kindOn : BitVec 4 := 0
/-- Off, R87. -/
def kindOff : BitVec 4 := 1
/-- Dim, R87. -/
def kindDim : BitVec 4 := 2
/-- Increase, R87. -/
def kindIncrease : BitVec 4 := 3
/-- Decrease, R87. -/
def kindDecrease : BitVec 4 := 4
/-- Mood, R87. -/
def kindMood : BitVec 4 := 5
/-- AllOn, R87. -/
def kindAllOn : BitVec 4 := 6
/-- AllOff, R87. -/
def kindAllOff : BitVec 4 := 7
/-- NONE, what a failed DECODE leaves in DEC_KIND, R88. -/
def kindNone : BitVec 4 := 15

/-- `M = 1 << LATCH.pin` in 32 bits (43_waveform.md R233). -/
def pinMask (l : Latch) : BitVec 32 := BitVec.ofNat 32 (2 ^ l.pin.toNat)

/-- MASKS(level), the inversion applied (43_waveform.md R233): the pair (on, off). -/
def masks (l : Latch) (lvl : Level) : BitVec 32 × BitVec 32 :=
  match lvl, l.invert with
  | .on, false => (pinMask l, 0)
  | .off, false => (0, pinMask l)
  | .on, true => (0, pinMask l)
  | .off, true => (pinMask l, 0)

/-- A duration of `ticks` ticks in microseconds, 64 bits (43_waveform.md R234; log 19). -/
def duration (l : Latch) (ticks : Nat) : BitVec 64 := BitVec.ofNat 64 (ticks * l.period.toNat)

/-- A pulse entry as 128 bits, `{dur, off, on}` (30_encoding.md R96). -/
def pulseBits (p : Pulse) : BitVec 128 :=
  BitVec.ofNat 128 (p.on.toNat + 2 ^ 32 * p.off.toNat + 2 ^ 64 * p.dur.toNat)

end Sys2Proof.Machine
end

