-- ==== Sys2Proof/Machine/Flags.lean ====
section
/-! DEFINITION. Status: codes of states and errors, STATUS, ERRINFO, STICKY, CFG_FLAGS
(10_state.md R25, R26, R37; 30_encoding.md R89, R90, R92). -/

namespace Sys2Proof.Machine

/-- The state code (30_encoding.md R89). -/
def stateCode : BuilderState → BitVec 3
  | .idle => 0
  | .messageStart => 1
  | .byteStart => 2
  | .sendByte => 3
  | .messageEnd => 4
  | .gapStart => 5
  | .gapEnd => 6

/-- The error code (30_encoding.md R90). -/
def errCode : ErrCode → BitVec 4
  | .noError => 0
  | .validation => 1
  | .decoding => 2
  | .encoding => 3
  | .capacity => 4
  | .device => 5
  | .illegalOpcode => 6

/-- The STICKY field with error code `k`'s bit: STATUS bit `16+k`, bit `k-1` of the field (60_exceptions.md
R264; 10_state.md R25). NONE has no bit. -/
def stickyBit : ErrCode → BitVec 6
  | .noError => 0
  | .validation => 0b000001
  | .decoding => 0b000010
  | .encoding => 0b000100
  | .capacity => 0b001000
  | .device => 0b010000
  | .illegalOpcode => 0b100000

/-- ERRINFO from its fields: A [7:0], B [15:8], SUB [19:16], STATE [26:24] (10_state.md R26). -/
def errWord (a b : Byte) (sub : BitVec 4) (t : BuilderState) : Word :=
  BitVec.ofNat 32 (a.toNat + 0x100 * b.toNat + 0x10000 * sub.toNat + 0x1000000 * (stateCode t).toNat)

/-- STATUS (10_state.md R25). -/
def statusWord (s : State) : Word :=
  BitVec.ofNat 32
    (s.busy.toNat + 2 * s.bufValid.toNat + 4 * s.decValid.toNat + 8 * s.waveValid.toNat +
      0x100 * (errCode s.lastErr).toNat + 0x20000 * s.sticky.toNat + 0x1000000 * (stateCode s.st).toNat)

/-- CFG_FLAGS.TRANSLATE (10_state.md R37). -/
def translateFlag (f : BitVec 3) : Bool := f[0]

/-- CFG_FLAGS.INVERT (R37). -/
def invertFlag (f : BitVec 3) : Bool := f[1]

/-- CFG_FLAGS.TRAILING_GAP (R37). -/
def trailingGapFlag (f : BitVec 3) : Bool := f[2]

end Sys2Proof.Machine
end

