-- ==== Sys2Proof/Machine/Ops.lean ====
section
/-! DEFINITION. The shared operations: PMEM, raising an error, issuing and holding an operation, reset,
pulse emission (60_exceptions.md R264; 20_memory.md R64; 70_reset_and_hazards.md R290, R293;
43_waveform.md R228 to R232). -/

namespace Sys2Proof.Machine

/-- What one step answers. -/
abbrev Result := Host.Outcome State Fault Refusal

/-! ### PMEM -/

/-- What an unlisted PMEM entry reads as: a free value (10_state.md R38; log 6). -/
def freePulse (epoch i : Nat) : Pulse :=
  ⟨Config.freePulseOn epoch i, Config.freePulseOff epoch i, Config.freePulseDur epoch i⟩

/-- The listed entry `i` of a pulse memory. -/
def pmemLookup (m : PulseMem) (i : Nat) : Option Pulse :=
  match m with
  | [] => none
  | (j, p) :: rest => if j = i then some p else pmemLookup rest i

/-- The memory with entry `i` written; indices stay strictly rising. -/
def pmemWrite (m : PulseMem) (i : Nat) (p : Pulse) : PulseMem :=
  match m with
  | [] => [(i, p)]
  | (j, q) :: rest =>
    if i < j then (i, p) :: (j, q) :: rest
    else if i = j then (i, p) :: rest
    else (j, q) :: pmemWrite rest i p

/-- `PMEM[i]`. -/
def pmemRead (s : State) (i : Nat) : Pulse :=
  match pmemLookup s.pmem i with
  | some p => p
  | none => freePulse s.pmemEpoch i

/-- The canonical form: indices strictly rising from `lo` on and below `bound`. -/
def pmemWfFrom (lo bound : Nat) : PulseMem → Bool
  | [] => true
  | (i, _) :: rest => decide (lo ≤ i) && decide (i < bound) && pmemWfFrom (i + 1) bound rest

/-- The canonical form of PMEM with `MAX_PULSES` entries. -/
def pmemWf (bound : Nat) (m : PulseMem) : Bool := pmemWfFrom 0 bound m

/-! ### Errors -/

/-- `raise`, the one way an error is recorded (60_exceptions.md R264). The block takes no trap and has
nothing to return from (R271). -/
def raise (e : ErrCode) (a b : Byte) (sub : BitVec 4) (t : BuilderState) (s : State) : State :=
  { s with lastErr := e, errInfo := errWord a b sub t, sticky := s.sticky ||| stickyBit e }

/-- What an operation that completes without error writes (60_exceptions.md R268). -/
def succeed (s : State) : State :=
  { s with lastErr := .noError, errInfo := 0 }

/-- ILLEGAL(o) (40_buffer_ops.md R124). -/
def illegal (o : Byte) (s : State) : State :=
  raise .illegalOpcode o 0 0 .idle s

/-! ### Issuing an operation -/

/-- A write of `w` to OP runs `op` when `BUSY = 0`; with `BUSY = 1` it is held and nothing else happens
(20_memory.md R64, 40_buffer_ops.md R120). -/
def issue (w : Word) (s : State) (op : State → Result) : Result :=
  if s.busy then .next { s with heldOp := some w } else op s

/-! ### Reset -/

/-- The platform's reset input (70_reset_and_hazards.md R290, R293): every state at its reset value, a held
OP write discarded, the build's constants kept. The environment's own fields go on (log 14). -/
def applyReset (s : State) : State :=
  { State.resetOf s.build with
    inputs := s.inputs, replies := s.replies, freeCount := s.freeCount, pmemEpoch := s.pmemEpoch + 1 }

/-! ### The wire buffer -/

/-- ENCODE's writes for a class and a parameter (41_codec.md R140, R150). -/
def encodeWith (cls p : Byte) (s : State) : State :=
  succeed
    { s with
      buf := ⟨paramHigh p, paramLow p, s.cmdDevice, cls, s.cmdAddr.a0, s.cmdAddr.a1, s.cmdAddr.a2,
        s.cmdAddr.a3, s.cmdAddr.a4, s.cmdRoom⟩
      bufValid := true }

/-- DECODE's writes before it classifies (41_codec.md R161). -/
def decodeCopy (cls param : Byte) (s : State) : State :=
  { s with
    decClass := cls, decParam := param, decDevice := s.buf.b2, decAddr := addrOf s.buf,
    decRoom := s.buf.b9 }

/-- DECODE with a result (41_codec.md R161). -/
def decodeOk (cls param : Byte) (kind : BitVec 4) (value : Byte) (s : State) : State :=
  succeed { decodeCopy cls param s with decKind := kind, decValue := value, decValid := true }

/-- DECODE with a DecodingError (41_codec.md R161, R176, R177). -/
def decodeFail (cls param : Byte) (s : State) : State :=
  raise .decoding param cls 0 .idle
    { decodeCopy cls param s with decKind := kindNone, decValue := 0, decValid := false }

/-! ### The waveform -/

/-- BUILD's clearing of the previous waveform (43_waveform.md R210). -/
def clearWave (s : State) : State :=
  { s with waveValid := false, pulseCount := 0, total := 0 }

/-- BUILD's latching, translation and start (43_waveform.md R210, R212, R213). -/
def startBuild (s : State) : State :=
  succeed
    { s with
      latch := ⟨s.cfgPin, s.cfgPeriod, s.cfgRepeats, s.cfgGapMult, invertFlag s.cfgFlags,
        trailingGapFlag s.cfgFlags⟩
      txbuf := if translateFlag s.cfgFlags then mapBytes xlate s.buf else s.buf
      rep := 0, bi := 0, bm := 0, gr := 0, st := .messageStart, busy := true }

/-- FINISH (43_waveform.md R228). -/
def finish (s : State) : State :=
  { s with st := .idle, busy := false, waveValid := true }

/-- CAPACITY_ABORT (43_waveform.md R229). PMEM holds any value from here on: nothing is listed, under a new
epoch (log 7). -/
def capacityAbort (s : State) : State :=
  { raise .capacity (s.build.maxPulses.extractLsb' 0 8) (s.build.maxPulses.extractLsb' 8 8) 0 s.st s with
    pulseCount := 0, total := 0, waveValid := false, st := .idle, busy := false, pmem := [],
    pmemEpoch := s.pmemEpoch + 1 }

/-- Whether the last pulse has the masks of `lvl`, so that a new one merges (43_waveform.md R230). -/
def merges (lvl : Level) (s : State) : Bool :=
  decide (0 < s.pulseCount.toNat) &&
    decide (((pmemRead s (s.pulseCount.toNat - 1)).on, (pmemRead s (s.pulseCount.toNat - 1)).off) =
      masks s.latch lvl)

/-- The merge of `add_pulse` (43_waveform.md R230). -/
def mergePulse (d : BitVec 64) (s : State) : State :=
  let i := s.pulseCount.toNat - 1
  let last := pmemRead s i
  { s with pmem := pmemWrite s.pmem i { last with dur := last.dur + d }, total := s.total + d }

/-- The append of `add_pulse` (43_waveform.md R230). -/
def appendPulse (lvl : Level) (d : BitVec 64) (s : State) : State :=
  { s with
    pmem := pmemWrite s.pmem s.pulseCount.toNat ⟨(masks s.latch lvl).1, (masks s.latch lvl).2, d⟩
    pulseCount := s.pulseCount + 1
    total := s.total + d }

/-- `add_pulse(level, d)` (43_waveform.md R230): merge, or append below the capacity, or abort. -/
def addPulse (lvl : Level) (d : BitVec 64) (s : State) : Emit :=
  if merges lvl s then .went (mergePulse d s)
  else if s.pulseCount = s.build.maxPulses then .aborted (capacityAbort s)
  else .went (appendPulse lvl d s)

/-- `seg_on(c)` (43_waveform.md R231): `c - T` ticks ON, then `T` ticks OFF. -/
def segOn (c : Nat) (s : State) : Emit :=
  match addPulse .on (duration s.latch (c - s.build.trailCount.toNat)) s with
  | .aborted s' => .aborted s'
  | .went s' => addPulse .off (duration s'.latch s'.build.trailCount.toNat) s'

/-- `seg_off(c)` (43_waveform.md R232): `c` ticks OFF. -/
def segOff (c : Nat) (s : State) : Emit :=
  addPulse .off (duration s.latch c) s

/-- A builder step after its segment: it goes on, or has ended with the abort (43_waveform.md R221). -/
def thenStep (e : Emit) (k : State → State) : Result :=
  match e with
  | .aborted s => .next s
  | .went s => .next (k s)

/-- SendByte's walk to the next bit, byte, or MessageEnd (43_waveform.md R224). -/
def nextBit (s : State) : State :=
  let bm := s.bm >>> 1
  if bm = 0 then
    let bi := s.bi + 1
    { s with bm := bm, bi := bi, st := if 10 ≤ bi.toNat then .messageEnd else .byteStart }
  else { s with bm := bm }

end Sys2Proof.Machine
end

