-- ==== Sys2Proof/Machine/BufferOps.lean ====
section
/-! DEFINITION. The meanings of NOP, PUSHB, LOADBUF and the reserved opcodes (40_buffer_ops.md). -/

namespace Sys2Proof.Machine

/-- NOP (40_buffer_ops.md R121): nothing changes, not even LAST_ERR. -/
def execNop (ign : BitVec 24) (s : State) : Result :=
  issue (opWordOf 0x00 ign) s fun s => .next s

/-- PUSHB's staging (40_buffer_ops.md R122). -/
def pushByte (b : Byte) (s : State) : State :=
  succeed
    { s with
      stage := if s.stageLen.toNat < 10 then setByte s.stage s.stageLen.toNat b else s.stage
      stageLen := if s.stageLen.toNat < 255 then s.stageLen + 1 else s.stageLen }

/-- PUSHB (40_buffer_ops.md R122). -/
def execPushb (imm : Byte) (ign : BitVec 16) (s : State) : Result :=
  issue (opWordOf 0x01 (immBits imm ign)) s fun s => .next (pushByte imm s)

/-- LOADBUF's commit (40_buffer_ops.md R123). -/
def loadBuffer (s : State) : State :=
  let n := s.stageLen
  let s1 := { s with stageLen := 0 }
  if n ≠ 10 then raise .validation n 0 1 .idle s1
  else succeed { s1 with buf := s1.stage, bufValid := true }

/-- LOADBUF (40_buffer_ops.md R123). -/
def execLoadbuf (ign : BitVec 24) (s : State) : Result :=
  issue (opWordOf 0x02 ign) s fun s => .next (loadBuffer s)

/-- Reserved opcodes 0x06..0x07 (40_buffer_ops.md R124). -/
def execIllegal06to07 (lo : BitVec 1) (ign : BitVec 24) (s : State) : Result :=
  issue (opWordOf (blockByte 0x06 lo) ign) s fun s => .next (illegal (blockByte 0x06 lo) s)

/-- Reserved opcodes 0x08..0x0F (R124). -/
def execIllegal08to0F (lo : BitVec 3) (ign : BitVec 24) (s : State) : Result :=
  issue (opWordOf (blockByte 0x08 lo) ign) s fun s => .next (illegal (blockByte 0x08 lo) s)

/-- Reserved opcodes 0x10..0x1F (R124). -/
def execIllegal10to1F (lo : BitVec 4) (ign : BitVec 24) (s : State) : Result :=
  issue (opWordOf (blockByte 0x10 lo) ign) s fun s => .next (illegal (blockByte 0x10 lo) s)

/-- Reserved opcodes 0x20..0x3F (R124). -/
def execIllegal20to3F (lo : BitVec 5) (ign : BitVec 24) (s : State) : Result :=
  issue (opWordOf (blockByte 0x20 lo) ign) s fun s => .next (illegal (blockByte 0x20 lo) s)

/-- Reserved opcodes 0x40..0x7F (R124). -/
def execIllegal40to7F (lo : BitVec 6) (ign : BitVec 24) (s : State) : Result :=
  issue (opWordOf (blockByte 0x40 lo) ign) s fun s => .next (illegal (blockByte 0x40 lo) s)

/-- Reserved opcodes 0x80..0xFF (R124). -/
def execIllegal80toFF (lo : BitVec 7) (ign : BitVec 24) (s : State) : Result :=
  issue (opWordOf (blockByte 0x80 lo) ign) s fun s => .next (illegal (blockByte 0x80 lo) s)

end Sys2Proof.Machine
end

