-- ==== Sys2Proof/Machine/Builder.lean ====
section
/-! DEFINITION. The meanings of BUILD and of the builder steps (43_waveform.md R210 to R234).

A builder step is the whole action of its state (R221). `step` takes one only while `BUSY = 1` and only
the one `ST` names (R220; log 1). -/

namespace Sys2Proof.Machine

/-- BUILD once issued: clear, validate in the order of 43_waveform.md R211, latch and start (R210). -/
def buildWave (s : State) : State :=
  let s1 := clearWave s
  if s1.bufValid = false then raise .validation 0 0 4 .idle s1
  else if s1.cfgRepeats = 0 then raise .validation 0 0 2 .idle s1
  else if s1.cfgPeriod = 0 then raise .validation 0 0 3 .idle s1
  else startBuild s1

/-- BUILD (43_waveform.md R210). -/
def execBuild (ign : BitVec 24) (s : State) : Result :=
  issue (opWordOf 0x05 ign) s fun s => .next (buildWave s)

/-- MessageStart (43_waveform.md R222). -/
def execStMessageStart (s : State) : Result :=
  thenStep (segOn s.build.highCount.toNat { s with bi := 0 }) fun s => { s with st := .byteStart }

/-- ByteStart (R223). -/
def execStByteStart (s : State) : Result :=
  thenStep (segOn s.build.highCount.toNat { s with bm := 0x80 }) fun s => { s with st := .sendByte }

/-- SendByte (R224): one bit of `TXBUF[BI]`. With `BI` above 9 there is no such byte (log 11). -/
def execStSendByte (s : State) : Result :=
  match byteAt s.txbuf s.bi.toNat with
  | none => .fault .byteIndexOutOfRange
  | some b =>
    thenStep
      (if b &&& s.bm ≠ 0 then segOn s.build.highCount.toNat s else segOff s.build.lowCount.toNat s) nextBit

/-- What MessageEnd does after its framing pulse (R225). -/
def afterMessage (s : State) : State :=
  if s.latch.trailing = false ∧ s.latch.repeats.toNat ≤ s.rep.toNat + 1 then
    finish { s with rep := s.rep + 1 }
  else { s with gr := s.latch.gapMult, st := .gapStart }

/-- MessageEnd (R225). -/
def execStMessageEnd (s : State) : Result :=
  thenStep (segOn s.build.highCount.toNat s) afterMessage

/-- What GapStart does after its gap unit (R226). -/
def afterGapUnit (s : State) : State :=
  if s.gr = 0 then { s with st := .gapEnd } else { s with gr := s.gr - 1 }

/-- GapStart (R226). -/
def execStGapStart (s : State) : Result :=
  thenStep (segOff s.build.gapCount.toNat s) afterGapUnit

/-- GapEnd (R227): the repeat count is compared before it is stored in eight bits (log 12). -/
def execStGapEnd (s : State) : Result :=
  let s1 := { s with rep := s.rep + 1 }
  if s.latch.repeats.toNat ≤ s.rep.toNat + 1 then .next (finish s1)
  else thenStep (segOff s.build.highCount.toNat s1) fun s => { s with st := .messageStart }

/-- Idle: the builder has no step (R220). -/
def execStIdle (s : State) : Result := .next s

end Sys2Proof.Machine
end

