-- ==== Sys2Proof/Machine/DecodeOps.lean ====
section
/-! DEFINITION. The meanings of DECODE and of its classification rows (41_codec.md R160 to R179).

A row is what DECODE does once it is issued, BUF is valid, and the key has selected the row (log 1). The
operand is the open part of the key: the row computes class and param from it. -/

namespace Sys2Proof.Machine

/-- Row D0_OFF (41_codec.md R162): Off, value 0. -/
def execD0Off (p : BitVec 7) (s : State) : Result :=
  .next (decodeOk 0 (blockByte 0 p) kindOff 0 s)

/-- Row D0_DIM (R163): Dim, value param - 128. -/
def execD0Dim (p : BitVec 5) (s : State) : Result :=
  .next (decodeOk 0 (blockByte 128 p) kindDim (blockByte 128 p - 128) s)

/-- Row D0_DECREASE (R164): Decrease, value 160. -/
def execD0Decrease (p : BitVec 5) (s : State) : Result :=
  .next (decodeOk 0 (blockByte 160 p) kindDecrease 160 s)

/-- Row D0_ALLOFF (R165): AllOff, value 192. -/
def execD0AllOff (p : BitVec 6) (s : State) : Result :=
  .next (decodeOk 0 (blockByte 192 p) kindAllOff 192 s)

/-- Row D1_ON (R166): On, value 0. -/
def execD1On (p : BitVec 5) (s : State) : Result :=
  .next (decodeOk 1 (blockByte 0 p) kindOn 0 s)

/-- Row D1_DIM32 (R167): Dim, value param - 32. -/
def execD1Dim32 (p : BitVec 5) (s : State) : Result :=
  .next (decodeOk 1 (blockByte 32 p) kindDim (blockByte 32 p - 32) s)

/-- Row D1_DIM64 (R168): Dim, value param - 64. -/
def execD1Dim64 (p : BitVec 5) (s : State) : Result :=
  .next (decodeOk 1 (blockByte 64 p) kindDim (blockByte 64 p - 64) s)

/-- Row D1_DIM96 (R169): Dim, value param - 96. -/
def execD1Dim96 (p : BitVec 5) (s : State) : Result :=
  .next (decodeOk 1 (blockByte 96 p) kindDim (blockByte 96 p - 96) s)

/-- Row D1_DIM128 (R170): Dim, value param - 128. -/
def execD1Dim128 (p : BitVec 5) (s : State) : Result :=
  .next (decodeOk 1 (blockByte 128 p) kindDim (blockByte 128 p - 128) s)

/-- Row D1_INCREASE (R171): Increase, value 160. -/
def execD1Increase (p : BitVec 5) (s : State) : Result :=
  .next (decodeOk 1 (blockByte 160 p) kindIncrease 160 s)

/-- Row D1_ALLON192 (R172): AllOn, value param - 192. -/
def execD1AllOn192 (p : BitVec 5) (s : State) : Result :=
  .next (decodeOk 1 (blockByte 192 p) kindAllOn (blockByte 192 p - 192) s)

/-- Row D1_ALLON224 (R173): AllOn, value param - 224. -/
def execD1AllOn224 (p : BitVec 5) (s : State) : Result :=
  .next (decodeOk 1 (blockByte 224 p) kindAllOn (blockByte 224 p - 224) s)

/-- Row D2_MOOD_LO (R174): Mood, value param - 1. -/
def execD2MoodLo (param : Byte) (s : State) : Result :=
  .next (decodeOk 2 param kindMood (param - 1) s)

/-- Row D2_MOOD_HI (R175): Mood, value param - 129. -/
def execD2MoodHi (param : Byte) (s : State) : Result :=
  .next (decodeOk 2 param kindMood (param - 129) s)

/-- Row D2_ERR (R176): DecodingError. -/
def execD2Err (p : BitVec 1) (s : State) : Result :=
  .next (decodeFail 2 (blockByte 0 p) s)

/-- Row DX_ERR, class 3 (R177): DecodingError. -/
def execDxErr03 (param : Byte) (s : State) : Result :=
  .next (decodeFail 3 param s)

/-- Row DX_ERR, class 4..7 (R177). -/
def execDxErr04to07 (c : BitVec 2) (param : Byte) (s : State) : Result :=
  .next (decodeFail (blockByte 4 c) param s)

/-- Row DX_ERR, class 8..15 (R177). -/
def execDxErr08to0F (c : BitVec 3) (param : Byte) (s : State) : Result :=
  .next (decodeFail (blockByte 8 c) param s)

/-- Row DX_ERR, class 16..31 (R177). -/
def execDxErr10to1F (c : BitVec 4) (param : Byte) (s : State) : Result :=
  .next (decodeFail (blockByte 16 c) param s)

/-- Row DX_ERR, class 32..63 (R177). -/
def execDxErr20to3F (c : BitVec 5) (param : Byte) (s : State) : Result :=
  .next (decodeFail (blockByte 32 c) param s)

/-- Row DX_ERR, class 64..127 (R177). -/
def execDxErr40to7F (c : BitVec 6) (param : Byte) (s : State) : Result :=
  .next (decodeFail (blockByte 64 c) param s)

/-- Row DX_ERR, class 128..255 (R177). -/
def execDxErr80toFF (c : BitVec 7) (param : Byte) (s : State) : Result :=
  .next (decodeFail (blockByte 128 c) param s)

/-- CLASSIFY for class 0, by ranges of param (41_codec.md R162 to R165). -/
def classify0 (p : Byte) (s : State) : Result :=
  if p.toNat ≤ 127 then execD0Off (p.extractLsb' 0 7) s
  else if p.toNat ≤ 159 then execD0Dim (p.extractLsb' 0 5) s
  else if p.toNat ≤ 191 then execD0Decrease (p.extractLsb' 0 5) s
  else execD0AllOff (p.extractLsb' 0 6) s

/-- CLASSIFY for class 1 (R166 to R173). -/
def classify1 (p : Byte) (s : State) : Result :=
  if p.toNat ≤ 31 then execD1On (p.extractLsb' 0 5) s
  else if p.toNat ≤ 63 then execD1Dim32 (p.extractLsb' 0 5) s
  else if p.toNat ≤ 95 then execD1Dim64 (p.extractLsb' 0 5) s
  else if p.toNat ≤ 127 then execD1Dim96 (p.extractLsb' 0 5) s
  else if p.toNat ≤ 159 then execD1Dim128 (p.extractLsb' 0 5) s
  else if p.toNat ≤ 191 then execD1Increase (p.extractLsb' 0 5) s
  else if p.toNat ≤ 223 then execD1AllOn192 (p.extractLsb' 0 5) s
  else execD1AllOn224 (p.extractLsb' 0 5) s

/-- CLASSIFY for class 2 (R174 to R176). -/
def classify2 (p : Byte) (s : State) : Result :=
  if p.toNat ≤ 1 then execD2Err (p.extractLsb' 0 1) s
  else if p.toNat ≤ 129 then execD2MoodLo p s
  else execD2MoodHi p s

/-- CLASSIFY for the classes from 3 on (R177). -/
def classifyOther (cls p : Byte) (s : State) : Result :=
  if cls.toNat ≤ 3 then execDxErr03 p s
  else if cls.toNat ≤ 7 then execDxErr04to07 (cls.extractLsb' 0 2) p s
  else if cls.toNat ≤ 15 then execDxErr08to0F (cls.extractLsb' 0 3) p s
  else if cls.toNat ≤ 31 then execDxErr10to1F (cls.extractLsb' 0 4) p s
  else if cls.toNat ≤ 63 then execDxErr20to3F (cls.extractLsb' 0 5) p s
  else if cls.toNat ≤ 127 then execDxErr40to7F (cls.extractLsb' 0 6) p s
  else execDxErr80toFF (cls.extractLsb' 0 7) p s

/-- DECODE once issued (41_codec.md R161): NO_BUFFER, or the row of the class and the parameter of BUF. -/
def decodeBuffer (s : State) : Result :=
  if s.bufValid = false then .next (raise .validation 0 0 4 .idle s)
  else if s.buf.b3 = 0 then classify0 (paramOf s.buf) s
  else if s.buf.b3 = 1 then classify1 (paramOf s.buf) s
  else if s.buf.b3 = 2 then classify2 (paramOf s.buf) s
  else classifyOther s.buf.b3 (paramOf s.buf) s

/-- DECODE (41_codec.md R161). -/
def execDecode (ign : BitVec 24) (s : State) : Result :=
  issue (opWordOf 0x04 ign) s decodeBuffer

end Sys2Proof.Machine
end

