-- ==== Sys2Proof/Machine/EncodeOps.lean ====
section
/-! DEFINITION. The meanings of ENCODE and of its sub-operations, one for each kind (41_codec.md R140 to R151).

A sub-operation is what ENCODE does once it is issued and CMD_KIND has selected it (log 1). -/

namespace Sys2Proof.Machine

/-- On (41_codec.md R141): class 1, parameter 0. -/
def execEncOn (s : State) : Result := .next (encodeWith 1 0 s)

/-- Off (R142): class 0, parameter 64. -/
def execEncOff (s : State) : Result := .next (encodeWith 0 64 s)

/-- Dim (R143): class 1, parameter value + 64 mod 256. -/
def execEncDim (s : State) : Result := .next (encodeWith 1 (s.cmdValue + 64) s)

/-- Increase (R144): class 1, parameter value + 160 mod 256. -/
def execEncIncrease (s : State) : Result := .next (encodeWith 1 (s.cmdValue + 160) s)

/-- Decrease (R145): class 0, parameter 160. -/
def execEncDecrease (s : State) : Result := .next (encodeWith 0 160 s)

/-- Mood (R146): class 2, parameter value + 2 mod 256. -/
def execEncMood (s : State) : Result := .next (encodeWith 2 (s.cmdValue + 2) s)

/-- AllOn (R147): class 1, parameter value + 192 mod 256. -/
def execEncAllOn (s : State) : Result := .next (encodeWith 1 (s.cmdValue + 192) s)

/-- AllOff (R148): class 0, parameter 192. -/
def execEncAllOff (s : State) : Result := .next (encodeWith 0 192 s)

/-- An unmapped kind 8..15 (R149): EncodingError with the kind code, no buffer. -/
def execEncUnmapped (lo : BitVec 3) (s : State) : Result :=
  .next (raise .encoding (blockByte 8 lo) 0 0 .idle s)

/-- ENCODE once issued: the sub-operation of CMD_KIND (41_codec.md R140, 30_encoding.md R95). -/
def encodeByKind (s : State) : Result :=
  if s.cmdKind = kindOn then execEncOn s
  else if s.cmdKind = kindOff then execEncOff s
  else if s.cmdKind = kindDim then execEncDim s
  else if s.cmdKind = kindIncrease then execEncIncrease s
  else if s.cmdKind = kindDecrease then execEncDecrease s
  else if s.cmdKind = kindMood then execEncMood s
  else if s.cmdKind = kindAllOn then execEncAllOn s
  else if s.cmdKind = kindAllOff then execEncAllOff s
  else execEncUnmapped (s.cmdKind.extractLsb' 0 3) s

/-- ENCODE (41_codec.md R140). -/
def execEncode (ign : BitVec 24) (s : State) : Result :=
  issue (opWordOf 0x03 ign) s encodeByKind

end Sys2Proof.Machine
end

