-- ==== Sys2Proof/Machine/Dispatch.lean ====
section
/-! DEFINITION. The one dispatch: each instruction's arm calls its meaning. -/

namespace Sys2Proof.Machine

/-- What an instruction does in a state. -/
def exec (i : Instr) (s : State) : Host.Outcome State Fault Refusal :=
  match i with
  | .nop ign => Sys2Proof.Machine.execNop ign s
  | .pushb imm ign => Sys2Proof.Machine.execPushb imm ign s
  | .loadbuf ign => Sys2Proof.Machine.execLoadbuf ign s
  | .encode ign => Sys2Proof.Machine.execEncode ign s
  | .decode ign => Sys2Proof.Machine.execDecode ign s
  | .build ign => Sys2Proof.Machine.execBuild ign s
  | .illegal06to07 lo ign => Sys2Proof.Machine.execIllegal06to07 lo ign s
  | .illegal08to0F lo ign => Sys2Proof.Machine.execIllegal08to0F lo ign s
  | .illegal10to1F lo ign => Sys2Proof.Machine.execIllegal10to1F lo ign s
  | .illegal20to3F lo ign => Sys2Proof.Machine.execIllegal20to3F lo ign s
  | .illegal40to7F lo ign => Sys2Proof.Machine.execIllegal40to7F lo ign s
  | .illegal80toFF lo ign => Sys2Proof.Machine.execIllegal80toFF lo ign s
  | .encOn => Sys2Proof.Machine.execEncOn s
  | .encOff => Sys2Proof.Machine.execEncOff s
  | .encDim => Sys2Proof.Machine.execEncDim s
  | .encIncrease => Sys2Proof.Machine.execEncIncrease s
  | .encDecrease => Sys2Proof.Machine.execEncDecrease s
  | .encMood => Sys2Proof.Machine.execEncMood s
  | .encAllOn => Sys2Proof.Machine.execEncAllOn s
  | .encAllOff => Sys2Proof.Machine.execEncAllOff s
  | .encUnmapped lo => Sys2Proof.Machine.execEncUnmapped lo s
  | .d0Off p => Sys2Proof.Machine.execD0Off p s
  | .d0Dim p => Sys2Proof.Machine.execD0Dim p s
  | .d0Decrease p => Sys2Proof.Machine.execD0Decrease p s
  | .d0AllOff p => Sys2Proof.Machine.execD0AllOff p s
  | .d1On p => Sys2Proof.Machine.execD1On p s
  | .d1Dim32 p => Sys2Proof.Machine.execD1Dim32 p s
  | .d1Dim64 p => Sys2Proof.Machine.execD1Dim64 p s
  | .d1Dim96 p => Sys2Proof.Machine.execD1Dim96 p s
  | .d1Dim128 p => Sys2Proof.Machine.execD1Dim128 p s
  | .d1Increase p => Sys2Proof.Machine.execD1Increase p s
  | .d1AllOn192 p => Sys2Proof.Machine.execD1AllOn192 p s
  | .d1AllOn224 p => Sys2Proof.Machine.execD1AllOn224 p s
  | .d2MoodLo param => Sys2Proof.Machine.execD2MoodLo param s
  | .d2MoodHi param => Sys2Proof.Machine.execD2MoodHi param s
  | .d2Err p => Sys2Proof.Machine.execD2Err p s
  | .dxErr03 param => Sys2Proof.Machine.execDxErr03 param s
  | .dxErr04to07 c param => Sys2Proof.Machine.execDxErr04to07 c param s
  | .dxErr08to0F c param => Sys2Proof.Machine.execDxErr08to0F c param s
  | .dxErr10to1F c param => Sys2Proof.Machine.execDxErr10to1F c param s
  | .dxErr20to3F c param => Sys2Proof.Machine.execDxErr20to3F c param s
  | .dxErr40to7F c param => Sys2Proof.Machine.execDxErr40to7F c param s
  | .dxErr80toFF c param => Sys2Proof.Machine.execDxErr80toFF c param s
  | .stMessageStart => Sys2Proof.Machine.execStMessageStart s
  | .stByteStart => Sys2Proof.Machine.execStByteStart s
  | .stSendByte => Sys2Proof.Machine.execStSendByte s
  | .stMessageEnd => Sys2Proof.Machine.execStMessageEnd s
  | .stGapStart => Sys2Proof.Machine.execStGapStart s
  | .stGapEnd => Sys2Proof.Machine.execStGapEnd s
  | .stIdle => Sys2Proof.Machine.execStIdle s

end Sys2Proof.Machine
end

