-- ==== Sys2Proof/Machine/Port.lean ====
section
/-! DEFINITION. Host reads and writes of a register (10_state.md R21 to R43; 20_memory.md R60 to R65, R69). -/

namespace Sys2Proof.Machine

/-- The index of a register (10_state.md R21). -/
def regIndex : Reg → BitVec 8
  | .op => 0x00
  | .status => 0x01
  | .errInfo => 0x02
  | .stageLen => 0x03
  | .bufW0 => 0x04
  | .bufW1 => 0x05
  | .bufW2 => 0x06
  | .cmdKind => 0x08
  | .cmdValue => 0x09
  | .cmdDevice => 0x0A
  | .cmdAddrLo => 0x0B
  | .cmdAddrHi => 0x0C
  | .cmdRoom => 0x0D
  | .decKind => 0x10
  | .decValue => 0x11
  | .decDevice => 0x12
  | .decAddrLo => 0x13
  | .decAddrHi => 0x14
  | .decRoom => 0x15
  | .decClass => 0x16
  | .decParam => 0x17
  | .cfgPin => 0x18
  | .cfgPeriod => 0x19
  | .cfgRepeats => 0x1A
  | .cfgGapMult => 0x1B
  | .cfgFlags => 0x1C
  | .pulseCount => 0x20
  | .totalLo => 0x21
  | .totalHi => 0x22
  | .pidx => 0x24
  | .pOn => 0x25
  | .pOff => 0x26
  | .pDurLo => 0x27
  | .pDurHi => 0x28
  | .param0 => 0x30
  | .param1 => 0x31

/-- The registers of 10_state.md R21, in its order. -/
def allRegs : List Reg :=
  [.op, .status, .errInfo, .stageLen, .bufW0, .bufW1, .bufW2,
    .cmdKind, .cmdValue, .cmdDevice, .cmdAddrLo, .cmdAddrHi, .cmdRoom,
    .decKind, .decValue, .decDevice, .decAddrLo, .decAddrHi, .decRoom, .decClass, .decParam,
    .cfgPin, .cfgPeriod, .cfgRepeats, .cfgGapMult, .cfgFlags,
    .pulseCount, .totalLo, .totalHi, .pidx, .pOn, .pOff, .pDurLo, .pDurHi, .param0, .param1]

/-- The register at an index; none where the index is reserved (10_state.md R22). -/
def regAt (idx : BitVec 8) : Option Reg := allRegs.find? fun r => regIndex r == idx

/-- The pulse the window shows; none at or past PULSE_COUNT (10_state.md R42). -/
def windowPulse (s : State) : Option Pulse :=
  if s.pidx.toNat < s.pulseCount.toNat then some (pmemRead s s.pidx.toNat) else none

/-- The registers whose value a read during BUSY does not fix (20_memory.md R69). -/
def openDuringBuild : Reg → Bool
  | .pulseCount => true
  | .totalLo => true
  | .totalHi => true
  | .pOn => true
  | .pOff => true
  | .pDurLo => true
  | .pDurHi => true
  | .op => false
  | .status => false
  | .errInfo => false
  | .stageLen => false
  | .bufW0 => false
  | .bufW1 => false
  | .bufW2 => false
  | .cmdKind => false
  | .cmdValue => false
  | .cmdDevice => false
  | .cmdAddrLo => false
  | .cmdAddrHi => false
  | .cmdRoom => false
  | .decKind => false
  | .decValue => false
  | .decDevice => false
  | .decAddrLo => false
  | .decAddrHi => false
  | .decRoom => false
  | .decClass => false
  | .decParam => false
  | .cfgPin => false
  | .cfgPeriod => false
  | .cfgRepeats => false
  | .cfgGapMult => false
  | .cfgFlags => false
  | .pidx => false
  | .param0 => false
  | .param1 => false

/-- The 32 bits of a register (10_state.md R22 to R43). -/
def readReg (r : Reg) (s : State) : Word :=
  match r with
  | .op => 0
  | .status => statusWord s
  | .errInfo => s.errInfo
  | .stageLen => s.stageLen.setWidth 32
  | .bufW0 => lanes s.buf.b0 s.buf.b1 s.buf.b2 s.buf.b3
  | .bufW1 => lanes s.buf.b4 s.buf.b5 s.buf.b6 s.buf.b7
  | .bufW2 => lanes s.buf.b8 s.buf.b9 0 0
  | .cmdKind => s.cmdKind.setWidth 32
  | .cmdValue => s.cmdValue.setWidth 32
  | .cmdDevice => s.cmdDevice.setWidth 32
  | .cmdAddrLo => lanes s.cmdAddr.a0 s.cmdAddr.a1 s.cmdAddr.a2 s.cmdAddr.a3
  | .cmdAddrHi => s.cmdAddr.a4.setWidth 32
  | .cmdRoom => s.cmdRoom.setWidth 32
  | .decKind => s.decKind.setWidth 32
  | .decValue => s.decValue.setWidth 32
  | .decDevice => s.decDevice.setWidth 32
  | .decAddrLo => lanes s.decAddr.a0 s.decAddr.a1 s.decAddr.a2 s.decAddr.a3
  | .decAddrHi => s.decAddr.a4.setWidth 32
  | .decRoom => s.decRoom.setWidth 32
  | .decClass => s.decClass.setWidth 32
  | .decParam => s.decParam.setWidth 32
  | .cfgPin => s.cfgPin.setWidth 32
  | .cfgPeriod => s.cfgPeriod.setWidth 32
  | .cfgRepeats => s.cfgRepeats.setWidth 32
  | .cfgGapMult => s.cfgGapMult.setWidth 32
  | .cfgFlags => s.cfgFlags.setWidth 32
  | .pulseCount => s.pulseCount.setWidth 32
  | .totalLo => s.total.extractLsb' 0 32
  | .totalHi => s.total.extractLsb' 32 32
  | .pidx => s.pidx.setWidth 32
  | .pOn => match windowPulse s with | some p => p.on | none => 0
  | .pOff => match windowPulse s with | some p => p.off | none => 0
  | .pDurLo => match windowPulse s with | some p => p.dur.extractLsb' 0 32 | none => 0
  | .pDurHi => match windowPulse s with | some p => p.dur.extractLsb' 32 32 | none => 0
  | .param0 => lanes s.build.highCount s.build.trailCount s.build.lowCount s.build.gapCount
  | .param1 => s.build.maxPulses.setWidth 32

/-- A write to a register: the fields of an RW register take their bits, anything else is unchanged
(10_state.md R22, R23). A write to OP issues an operation and is not made here (`fetch`). -/
def writeReg (r : Reg) (v : Word) (s : State) : State :=
  match r with
  | .cmdKind => { s with cmdKind := v.extractLsb' 0 4 }
  | .cmdValue => { s with cmdValue := v.extractLsb' 0 8 }
  | .cmdDevice => { s with cmdDevice := v.extractLsb' 0 8 }
  | .cmdAddrLo => { s with cmdAddr := ⟨lane v 0, lane v 1, lane v 2, lane v 3, s.cmdAddr.a4⟩ }
  | .cmdAddrHi =>
    { s with cmdAddr := ⟨s.cmdAddr.a0, s.cmdAddr.a1, s.cmdAddr.a2, s.cmdAddr.a3, lane v 0⟩ }
  | .cmdRoom => { s with cmdRoom := v.extractLsb' 0 8 }
  | .cfgPin => { s with cfgPin := v.extractLsb' 0 5 }
  | .cfgPeriod => { s with cfgPeriod := v.extractLsb' 0 16 }
  | .cfgRepeats => { s with cfgRepeats := v.extractLsb' 0 8 }
  | .cfgGapMult => { s with cfgGapMult := v.extractLsb' 0 8 }
  | .cfgFlags => { s with cfgFlags := v.extractLsb' 0 3 }
  | .pidx => { s with pidx := v.extractLsb' 0 16 }
  | .op => s
  | .status => s
  | .errInfo => s
  | .stageLen => s
  | .bufW0 => s
  | .bufW1 => s
  | .bufW2 => s
  | .decKind => s
  | .decValue => s
  | .decDevice => s
  | .decAddrLo => s
  | .decAddrHi => s
  | .decRoom => s
  | .decClass => s
  | .decParam => s
  | .pulseCount => s
  | .totalLo => s
  | .totalHi => s
  | .pOn => s
  | .pOff => s
  | .pDurLo => s
  | .pDurHi => s
  | .param0 => s
  | .param1 => s

/-- Whether a read at this index now may return any value (20_memory.md R69). -/
def readIsOpen (idx : BitVec 8) (s : State) : Bool :=
  match regAt idx with
  | some r => s.busy && openDuringBuild r
  | none => false

/-- What a read at this index returns now (20_memory.md R60, R69; 10_state.md R22). -/
def readValue (idx : BitVec 8) (s : State) : Word :=
  match regAt idx with
  | none => 0
  | some r => if s.busy && openDuringBuild r then Config.freeRead s.freeCount else readReg r s

/-- A host read: the value goes to the host; the block does not change (20_memory.md R63). A read of an open
value uses up one free value (log 3). -/
def hostRead (idx : BitVec 8) (s : State) : State :=
  { s with
    replies := ⟨idx, readValue idx s⟩ :: s.replies
    freeCount := if readIsOpen idx s then s.freeCount + 1 else s.freeCount }

/-- A host write to an index other than OP's (10_state.md R22, R23). -/
def hostWrite (idx : BitVec 8) (v : Word) (s : State) : State :=
  match regAt idx with
  | none => s
  | some r => writeReg r v s

end Sys2Proof.Machine
end

