-- ==== Sys2Proof/Machine/Fetch.lean ====
section
/-! DEFINITION. Which action comes next, and how a row of the table is put where it is fetched (20_memory.md
R64, R68; 43_waveform.md R220; 70_reset_and_hazards.md R293; logs 2, 13, 14, 17, 22). -/

namespace Sys2Proof.Machine

/-- The builder step that is enabled: the action of `ST` while `BUSY = 1`, none while `BUSY = 0`
(43_waveform.md R220). -/
def builderInstr (s : State) : Instr :=
  if s.busy then
    match s.st with
    | .idle => .stIdle
    | .messageStart => .stMessageStart
    | .byteStart => .stByteStart
    | .sendByte => .stSendByte
    | .messageEnd => .stMessageEnd
    | .gapStart => .stGapStart
    | .gapEnd => .stGapEnd
  else .stIdle

/-- A builder turn at the head of the inputs, taken. -/
def takeTurn (s : State) : State :=
  match s.inputs with
  | .turn :: rest => { s with inputs := rest }
  | _ => s

/-- The next action when no OP write is held. -/
def fetchInput (s : State) : Fetched :=
  match s.inputs with
  | [] => .instr (builderInstr s) s
  | .turn :: rest => .instr (builderInstr s) { s with inputs := rest }
  | .reset :: rest => .done (applyReset { s with inputs := rest })
  | .read idx :: rest => .done (hostRead idx { s with inputs := rest })
  | .write idx v :: rest =>
    if idx = regIndex .op then .instr (decodeOp v) { s with inputs := rest }
    else .done (hostWrite idx v { s with inputs := rest })

/-- The next action while the OP write `w` is held: a reset discards it; the builder goes on while
`BUSY = 1`; then the write takes effect (20_memory.md R64, 70_reset_and_hazards.md R293). The host's later
accesses wait. -/
def fetchHeld (w : Word) (s : State) : Fetched :=
  match s.inputs with
  | .reset :: rest => .done (applyReset { s with inputs := rest })
  | _ =>
    if s.busy then .instr (builderInstr s) (takeTurn s)
    else .instr (decodeOp w) { s with heldOp := none }

/-- The next action. -/
def fetch (s : State) : Fetched :=
  match s.heldOp with
  | some w => fetchHeld w s
  | none => fetchInput s

/-- `s` with a code of the table put where the next step takes it from: an operation word as the host's next
write to OP; a kind in CMD_KIND, with ENCODE; a key in BUF, with DECODE; a state in ST, with the turn the
builder's (log 17). -/
def placeCode (e : Encoded) (s : State) : State :=
  match e with
  | .opWord w => { s with heldOp := none, inputs := .write (regIndex .op) w :: s.inputs }
  | .cmdKind k =>
    { s with
      busy := false, st := .idle, cmdKind := k, heldOp := none
      inputs := .write (regIndex .op) (opWordOf 0x03 0) :: s.inputs }
  | .decodeKey k =>
    { s with
      busy := false, st := .idle, bufValid := true, heldOp := none
      buf := { s.buf with
        b0 := paramHigh (k.extractLsb' 0 8), b1 := paramLow (k.extractLsb' 0 8), b3 := k.extractLsb' 8 8 }
      inputs := .write (regIndex .op) (opWordOf 0x04 0) :: s.inputs }
  | .builderState c =>
    { s with
      busy := decide (c ≠ 0), heldOp := none, inputs := .turn :: s.inputs
      st :=
        if c = 1 then .messageStart
        else if c = 2 then .byteStart
        else if c = 3 then .sendByte
        else if c = 4 then .messageEnd
        else if c = 5 then .gapStart
        else if c = 6 then .gapEnd
        else .idle }

end Sys2Proof.Machine
end

