-- ==== Sys2Proof/Machine/Step.lean ====
section
/-! DEFINITION. One step of the block with its host port (20_memory.md R68), and the placing of a word of the
opcode table where the step fetches. -/

namespace Sys2Proof.Machine

/-- One action of the total order: a host access, a builder step, or a reset (20_memory.md R68). -/
def step (s : State) : Host.Outcome State Fault Refusal :=
  match fetch s with
  | .instr i s' => exec i s'
  | .done s' => .next s'

/-- `s` with the instruction of a word of spec/opcode_table.json stored where `step` fetches next (log 17). -/
def State.withFetchWord (s : State) (nbits w : Nat) : State :=
  placeCode (tableFormat nbits w) s

end Sys2Proof.Machine
end

