-- ==== Sys2Proof/Safety.lean ====
section
/-! DEFINITION. What a legal state and a safe step are (10_state.md R52; 43_waveform.md R243, R244;
60_exceptions.md R264, R266). -/

namespace Sys2Proof

open Sys2Proof.Machine

/-- `BM` is one of 0x80, 0x40, ..., 0x01 (10_state.md R52). -/
def oneBitMask (b : Byte) : Prop :=
  b = 0x80 ∨ b = 0x40 ∨ b = 0x20 ∨ b = 0x10 ∨ b = 0x08 ∨ b = 0x04 ∨ b = 0x02 ∨ b = 0x01

/-- The clauses of 10_state.md R52 that the types do not carry, in R52's order; the clause on ByteStart is
what makes the clause on SendByte keep itself. -/
def Legal (s : State) : Prop :=
  (s.st = .idle ↔ s.busy = false) ∧
  s.bi.toNat ≤ 10 ∧
  (s.st = .sendByte → oneBitMask s.bm ∧ s.bi.toNat ≤ 9) ∧
  (s.st = .byteStart → s.bi.toNat ≤ 9) ∧
  s.pulseCount.toNat ≤ s.build.maxPulses.toNat ∧
  (s.busy = true → s.rep.toNat < s.latch.repeats.toNat) ∧
  (s.waveValid = true → s.busy = false)

/-- PMEM is in its canonical form. -/
def PmemCanonical (s : State) : Prop := pmemWf s.build.maxPulses.toNat s.pmem = true

/-- The sum of the durations of the first `n` pulses. -/
def durationSum (s : State) : Nat → BitVec 64
  | 0 => 0
  | n + 1 => durationSum s n + (pmemRead s n).dur

/-- What holds of the pulse list between two steps (43_waveform.md R243, R244): an even number of pulses, each
one written; ON pulses at even indices, never merged, OFF pulses at odd ones; TOTAL the sum of the durations; a
pulse there is once the first MessageStart is past. -/
def WaveformLegal (s : State) : Prop :=
  s.pulseCount.toNat % 2 = 0 ∧
  (∀ i, i < s.pulseCount.toNat → (pmemLookup s.pmem i).isSome = true) ∧
  (∀ i, i < s.pulseCount.toNat → i % 2 = 0 →
    pmemRead s i = ⟨(masks s.latch .on).1, (masks s.latch .on).2,
      duration s.latch (s.build.highCount.toNat - s.build.trailCount.toNat)⟩) ∧
  (∀ i, i < s.pulseCount.toNat → i % 2 = 1 →
    ((pmemRead s i).on, (pmemRead s i).off) = masks s.latch .off) ∧
  s.total = durationSum s s.pulseCount.toNat ∧
  (s.busy = true → s.st ≠ .messageStart → 0 < s.pulseCount.toNat)

/-- What holds of the error record (60_exceptions.md R264, R266, R268; 43_waveform.md R228): code 5 and its STICKY
bit never occur; the last error has its STICKY bit; without an error ERRINFO is 0, and its reserved bits
are 0 always (10_state.md R26); a build in progress has recorded none. -/
def ErrorsLegal (s : State) : Prop :=
  s.lastErr ≠ .device ∧
  s.sticky[4] = false ∧
  s.sticky &&& stickyBit s.lastErr = stickyBit s.lastErr ∧
  (s.lastErr = .noError → s.errInfo = 0) ∧
  s.errInfo &&& 0xF8F00000 = 0 ∧
  (s.busy = true → s.lastErr = .noError)

/-- What holds of the decode outputs (30_encoding.md R88; 10_state.md R31, R32): a kind 0..7 after a success, NONE
and value 0 otherwise. -/
def DecodeOutputsLegal (s : State) : Prop :=
  if s.decValid then s.decKind.toNat ≤ 7 else s.decKind = kindNone ∧ s.decValue = 0

/-- The last pulse drives the pin OFF, so that an OFF segment merges into it (43_waveform.md R232). -/
def LastPulseOff (s : State) : Prop :=
  0 < s.pulseCount.toNat ∧
    ((pmemRead s (s.pulseCount.toNat - 1)).on, (pmemRead s (s.pulseCount.toNat - 1)).off) = masks s.latch .off

/-- No pulse yet, or the last one OFF: an ON segment appends (43_waveform.md R243). -/
def ReadyForOn (s : State) : Prop := s.pulseCount.toNat = 0 ∨ LastPulseOff s

/-- A safe state: the next step does not stop. -/
def Safe (s : State) : Prop := ∃ t, step s = .next t

end Sys2Proof
end

