-- ==== Sys2Proof/Certificates/Slice0/Obligations.lean ====
section
/-! DEFINITION. The statements for the provers, each from the numbered rules of spec/ it names. -/

namespace Sys2Proof.Claims

open Sys2Proof.Machine

/-! ### Results written out from the rules -/

/-- IllegalOpcode recorded for opcode `o` (40_buffer_ops.md R124): LAST_ERR 6, INFO_A `o`, STATUS bit 22. -/
def illegalRecorded (o : Nat) (s : State) : State :=
  { s with lastErr := .illegalOpcode, errInfo := BitVec.ofNat 32 o, sticky := s.sticky ||| 0b100000 }

/-- ValidationError with a sub-cause and INFO_A (30_encoding.md R91, R92): LAST_ERR 1, STATUS bit 17. -/
def validationRecorded (sub a : Nat) (s : State) : State :=
  { s with
    lastErr := .validation, errInfo := BitVec.ofNat 32 (0x10000 * sub + a), sticky := s.sticky ||| 0b000001 }

/-- EncodingError for kind `k` (41_codec.md R149): LAST_ERR 3, INFO_A `k`, STATUS bit 19. -/
def encodingErrorRecorded (k : Nat) (s : State) : State :=
  { s with lastErr := .encoding, errInfo := BitVec.ofNat 32 k, sticky := s.sticky ||| 0b000100 }

/-- The encode table of 30_encoding.md R95: the class and the parameter of a kind and a value. -/
def encTable (kind value : Nat) : Option (Nat × Nat) :=
  match kind with
  | 0 => some (1, 0)
  | 1 => some (0, 64)
  | 2 => some (1, (value + 64) % 256)
  | 3 => some (1, (value + 160) % 256)
  | 4 => some (0, 160)
  | 5 => some (2, (value + 2) % 256)
  | 6 => some (1, (value + 192) % 256)
  | 7 => some (0, 192)
  | _ => none

/-- The state after an ENCODE to a class and a parameter (41_codec.md R140, R150). -/
def encoded (cls p : Nat) (s : State) : State :=
  { s with
    buf := ⟨BitVec.ofNat 8 (p / 16), BitVec.ofNat 8 (p % 16), s.cmdDevice, BitVec.ofNat 8 cls, s.cmdAddr.a0,
      s.cmdAddr.a1, s.cmdAddr.a2, s.cmdAddr.a3, s.cmdAddr.a4, s.cmdRoom⟩
    bufValid := true, lastErr := .noError, errInfo := 0 }

/-- The decode table of 41_codec.md R162 to R177: the kind code and value of a class and a param; none for a
DecodingError. -/
def decTable (cls p : Nat) : Option (Nat × Nat) :=
  if cls = 0 then
    if p ≤ 127 then some (1, 0)
    else if p ≤ 159 then some (2, p - 128)
    else if p ≤ 191 then some (4, 160)
    else some (7, 192)
  else if cls = 1 then
    if p ≤ 31 then some (0, 0)
    else if p ≤ 63 then some (2, p - 32)
    else if p ≤ 95 then some (2, p - 64)
    else if p ≤ 127 then some (2, p - 96)
    else if p ≤ 159 then some (2, p - 128)
    else if p ≤ 191 then some (3, 160)
    else if p ≤ 223 then some (6, p - 192)
    else some (6, p - 224)
  else if cls = 2 then
    if p ≤ 1 then none
    else if p ≤ 129 then some (5, p - 1)
    else some (5, p - 129)
  else none

/-- The state after a DECODE with a result (41_codec.md R161). -/
def decodedAs (cls p kind value : Nat) (s : State) : State :=
  { s with
    decClass := BitVec.ofNat 8 cls, decParam := BitVec.ofNat 8 p, decDevice := s.buf.b2
    decAddr := ⟨s.buf.b4, s.buf.b5, s.buf.b6, s.buf.b7, s.buf.b8⟩, decRoom := s.buf.b9
    decKind := BitVec.ofNat 4 kind, decValue := BitVec.ofNat 8 value, decValid := true
    lastErr := .noError, errInfo := 0 }

/-- The state after a DECODE with a DecodingError (41_codec.md R161, R176, R177): LAST_ERR 2, INFO_A the param,
INFO_B the class, STATUS bit 18. -/
def decodeErrorRecorded (cls p : Nat) (s : State) : State :=
  { s with
    decClass := BitVec.ofNat 8 cls, decParam := BitVec.ofNat 8 p, decDevice := s.buf.b2
    decAddr := ⟨s.buf.b4, s.buf.b5, s.buf.b6, s.buf.b7, s.buf.b8⟩, decRoom := s.buf.b9
    decKind := 15, decValue := 0, decValid := false
    lastErr := .decoding, errInfo := BitVec.ofNat 32 (p + 256 * cls), sticky := s.sticky ||| 0b000010 }

/-- Every byte replaced by the code word of its low nibble (42_nibble.md R200, R203). -/
def translated (b : Bytes10) : Bytes10 :=
  let t : Byte → Byte := fun x => Config.nibbleTable (x.extractLsb' 0 4)
  ⟨t b.b0, t b.b1, t b.b2, t b.b3, t b.b4, t b.b5, t b.b6, t b.b7, t b.b8, t b.b9⟩

/-- The buffer a BUILD transmits (42_nibble.md R203). -/
def transmitted (s : State) : Bytes10 := if s.cfgFlags[0] then translated s.buf else s.buf

/-- A duration of `ticks` ticks of the latched period (43_waveform.md R234). -/
def micros (s : State) (ticks : Nat) : BitVec 64 := BitVec.ofNat 64 (ticks * s.latch.period.toNat)

/-- From `s` to `t` an ON segment of HIGH_COUNT ticks was appended as two pulses, every other entry of PMEM as
before (43_waveform.md R230, R231). -/
def OnSegmentAppended (s t : State) : Prop :=
  t.pulseCount.toNat = s.pulseCount.toNat + 2 ∧
  pmemRead t s.pulseCount.toNat =
    ⟨(masks s.latch .on).1, (masks s.latch .on).2,
      micros s (s.build.highCount.toNat - s.build.trailCount.toNat)⟩ ∧
  pmemRead t (s.pulseCount.toNat + 1) =
    ⟨(masks s.latch .off).1, (masks s.latch .off).2, micros s s.build.trailCount.toNat⟩ ∧
  (∀ i, i ≠ s.pulseCount.toNat → i ≠ s.pulseCount.toNat + 1 → pmemRead t i = pmemRead s i) ∧
  t.total = s.total + micros s s.build.highCount.toNat

/-- From `s` to `t` an OFF segment was merged into the last pulse, every other entry of PMEM as before
(43_waveform.md R230, R232). -/
def OffSegmentMerged (ticks : Nat) (s t : State) : Prop :=
  t.pulseCount = s.pulseCount ∧
  pmemRead t (s.pulseCount.toNat - 1) =
    { pmemRead s (s.pulseCount.toNat - 1) with
      dur := (pmemRead s (s.pulseCount.toNat - 1)).dur + micros s ticks } ∧
  (∀ i, i ≠ s.pulseCount.toNat - 1 → pmemRead t i = pmemRead s i) ∧
  t.total = s.total + micros s ticks

/-- The builder steps with an ON segment: MessageStart, ByteStart, MessageEnd, and SendByte on a 1 bit
(43_waveform.md R222 to R225, R229). -/
def SendsOnSegment (i : Instr) (s : State) : Prop :=
  i = .stMessageStart ∨ i = .stByteStart ∨ i = .stMessageEnd ∨
    (i = .stSendByte ∧ ∃ b, byteAt s.txbuf s.bi.toNat = some b ∧ b &&& s.bm ≠ 0)

/-- The builder rows of the table. -/
def IsBuilderRow (i : Instr) : Prop :=
  i = .stMessageStart ∨ i = .stByteStart ∨ i = .stSendByte ∨ i = .stMessageEnd ∨ i = .stGapStart ∨
    i = .stGapEnd ∨ i = .stIdle

/-- The rows that may write BUF: LOADBUF, ENCODE and its sub-operations (10_state.md R28). -/
def MayWriteBuf : Instr → Prop
  | .loadbuf _ => True
  | .encode _ => True
  | .encOn => True
  | .encOff => True
  | .encDim => True
  | .encIncrease => True
  | .encDecrease => True
  | .encMood => True
  | .encAllOn => True
  | .encAllOff => True
  | _ => False

/-- The answer of a step with its next state changed. -/
def mapNext (f : State → State) : Host.Outcome State Fault Refusal → Host.Outcome State Fault Refusal
  | .next s => .next (f s)
  | .fault r => .fault r
  | .refused r => .refused r

/-- A list of instructions run one after the other. -/
def runList : List Instr → State → Host.Outcome State Fault Refusal
  | [], s => .next s
  | i :: rest, s =>
    match exec i s with
    | .next t => runList rest t
    | .fault r => .fault r
    | .refused r => .refused r

/-- The width of an RW register's field, from bit 0 (10_state.md R30, R33 to R37, R42); none where a write has no
effect. -/
def rwWidth : Reg → Option Nat
  | .cmdKind => some 4
  | .cmdValue => some 8
  | .cmdDevice => some 8
  | .cmdAddrLo => some 32
  | .cmdAddrHi => some 8
  | .cmdRoom => some 8
  | .cfgPin => some 5
  | .cfgPeriod => some 16
  | .cfgRepeats => some 8
  | .cfgGapMult => some 8
  | .cfgFlags => some 3
  | .pidx => some 16
  | _ => none

/-- The bits of a register that a rule assigns to a field (10_state.md R25 to R43). -/
def fieldMask : Reg → Word
  | .op => 0
  | .status => 0x077E0F0F
  | .errInfo => 0x070FFFFF
  | .stageLen => 0xFF
  | .bufW0 => 0xFFFFFFFF
  | .bufW1 => 0xFFFFFFFF
  | .bufW2 => 0xFFFF
  | .cmdKind => 0xF
  | .cmdValue => 0xFF
  | .cmdDevice => 0xFF
  | .cmdAddrLo => 0xFFFFFFFF
  | .cmdAddrHi => 0xFF
  | .cmdRoom => 0xFF
  | .decKind => 0xF
  | .decValue => 0xFF
  | .decDevice => 0xFF
  | .decAddrLo => 0xFFFFFFFF
  | .decAddrHi => 0xFF
  | .decRoom => 0xFF
  | .decClass => 0xFF
  | .decParam => 0xFF
  | .cfgPin => 0x1F
  | .cfgPeriod => 0xFFFF
  | .cfgRepeats => 0xFF
  | .cfgGapMult => 0xFF
  | .cfgFlags => 0x7
  | .pulseCount => 0xFFFF
  | .totalLo => 0xFFFFFFFF
  | .totalHi => 0xFFFFFFFF
  | .pidx => 0xFFFF
  | .pOn => 0xFFFFFFFF
  | .pOff => 0xFFFFFFFF
  | .pDurLo => 0xFFFFFFFF
  | .pDurHi => 0xFFFFFFFF
  | .param0 => 0xFFFFFFFF
  | .param1 => 0xFFFF

/-- What DECODE gives after ENCODE of a kind 0..7 and a value: the table of 41_codec.md R180; none for a
DecodingError. -/
def roundTrip (kind v : Nat) : Option (Nat × Nat) :=
  if kind = 0 then some (0, 0)
  else if kind = 1 then some (1, 0)
  else if kind = 2 then
    if v ≤ 31 then some (2, v)
    else if v ≤ 63 then some (2, v - 32)
    else if v ≤ 95 then some (2, v - 64)
    else if v ≤ 127 then some (3, 160)
    else if v ≤ 159 then some (6, v - 128)
    else if v ≤ 191 then some (6, v - 160)
    else if v ≤ 223 then some (0, 0)
    else some (2, v - 224)
  else if kind = 3 then
    if v ≤ 31 then some (3, 160)
    else if v ≤ 63 then some (6, v - 32)
    else if v ≤ 95 then some (6, v - 64)
    else if v ≤ 127 then some (0, 0)
    else if v ≤ 159 then some (2, v - 128)
    else if v ≤ 191 then some (2, v - 160)
    else if v ≤ 223 then some (2, v - 192)
    else some (2, v - 224)
  else if kind = 4 then some (4, 160)
  else if kind = 5 then
    if v ≤ 127 then some (5, v + 1)
    else if v ≤ 253 then some (5, v - 127)
    else none
  else if kind = 6 then
    if v ≤ 31 then some (6, v)
    else if v ≤ 63 then some (6, v - 32)
    else if v ≤ 95 then some (0, 0)
    else if v ≤ 127 then some (2, v - 96)
    else if v ≤ 159 then some (2, v - 128)
    else if v ≤ 191 then some (2, v - 160)
    else if v ≤ 223 then some (2, v - 192)
    else some (3, 160)
  else some (7, 192)

/-- A valid command of 41_codec.md R180. -/
def ValidCommand (kind v : Nat) : Prop :=
  (kind = 0 ∧ v = 0) ∨ (kind = 1 ∧ v = 0) ∨ (kind = 4 ∧ v = 160) ∨ (kind = 7 ∧ v = 192) ∨
    (kind = 2 ∧ v ≤ 31) ∨ (kind = 6 ∧ v ≤ 31)

/-- The buffers that ENCODE gives back after DECODE (41_codec.md R181). -/
def EncodeImage (b : Bytes10) : Prop :=
  b.b0.toNat ≤ 15 ∧ b.b1.toNat ≤ 15 ∧
    ((b.b3 = 0 ∧ (paramOf b = 64 ∨ paramOf b = 160 ∨ paramOf b = 192)) ∨
      (b.b3 = 1 ∧ (paramOf b = 0 ∨ (64 ≤ (paramOf b).toNat ∧ (paramOf b).toNat ≤ 95) ∨
        (192 ≤ (paramOf b).toNat ∧ (paramOf b).toNat ≤ 223))))

/-! ### Whole builds -/

/-- The block idle with a buffer and a configuration that pass BUILD's checks (43_waveform.md R211), nothing held
and no host access or reset to come. -/
def ReadyToBuild (s : State) : Prop :=
  s.busy = false ∧ s.heldOp = none ∧ s.inputs = [] ∧ s.bufValid = true ∧ s.cfgRepeats ≠ 0 ∧
    s.cfgPeriod ≠ 0 ∧ s.build.wf = true

/-- The block idle with a buffer and a configuration that pass BUILD's checks (43_waveform.md R211), whatever the host
does next and whether or not an OP write is held. -/
def PassesBuildChecks (s : State) : Prop :=
  s.busy = false ∧ s.bufValid = true ∧ s.cfgRepeats ≠ 0 ∧ s.cfgPeriod ≠ 0 ∧ s.build.wf = true

/-- In the first `k` steps from `s` no second build starts: once BUSY is 0 it stays 0. Host reads, register writes, OP
writes (held while BUSY, 20_memory.md R64), builder turns and resets may come in any order between. -/
def NoSecondBuild (k : Nat) (s : State) : Prop :=
  ∀ i j u v, i ≤ j → j ≤ k → core.run i s = .next u → core.run j s = .next v → u.busy = false → v.busy = false

/-- `P` of the build to come (43_waveform.md, notation). -/
def onesSent (s : State) : Nat := popcount10 (transmitted s)

/-- `2 * N * (12 + P)` (43_waveform.md R240). -/
def specPulses (s : State) : Nat := 2 * s.cfgRepeats.toNat * (12 + onesSent s)

/-- The ticks of 43_waveform.md R241. -/
def specTicks (s : State) : Nat :=
  let n := s.cfgRepeats.toNat
  let k := (12 + onesSent s) * s.build.highCount.toNat + (80 - onesSent s) * s.build.lowCount.toNat
  let gap := s.build.gapCount.toNat * (s.cfgGapMult.toNat + 1)
  if s.cfgFlags[2] then n * (k + gap) + (n - 1) * s.build.highCount.toNat
  else n * k + (n - 1) * (gap + s.build.highCount.toNat)

/-- The builder steps of 43_waveform.md R242. -/
def specSteps (s : State) : Nat :=
  let n := s.cfgRepeats.toNat
  let m := s.cfgGapMult.toNat
  if s.cfgFlags[2] then n * (94 + m) else (n - 1) * (94 + m) + 92

/-- The ticks of an ON segment of HIGH_COUNT ticks (43_waveform.md R245). -/
def onTicks (s : State) : List Level :=
  List.replicate (s.build.highCount.toNat - s.build.trailCount.toNat) .on ++
    List.replicate s.build.trailCount.toNat .off

/-- The ticks of one byte: its ByteStart, then its bits from the most significant down (43_waveform.md R223, R224). -/
def byteTicks (s : State) (b : Byte) : List Level :=
  onTicks s ++ (List.range 8).flatMap fun j =>
    if b.getLsbD (7 - j) then onTicks s else List.replicate s.build.lowCount.toNat .off

/-- The ticks of one framed message (43_waveform.md R222 to R225). -/
def messageTicks (s : State) : List Level :=
  onTicks s ++ (bytes (transmitted s)).flatMap (byteTicks s) ++ onTicks s

/-- The ticks of one gap (43_waveform.md R226, R249). -/
def gapTicks (s : State) : List Level :=
  List.replicate (s.build.gapCount.toNat * (s.cfgGapMult.toNat + 1)) .off

/-- The tick sequence of the build to come: N messages; after each but the last a gap and the restarting GapEnd;
after the last a gap when TRAILING_GAP is 1 (43_waveform.md R225 to R227, R245, R248). -/
def tickSequence (s : State) : List Level :=
  (List.range s.cfgRepeats.toNat).flatMap fun r =>
    messageTicks s ++
      if r + 1 < s.cfgRepeats.toNat then gapTicks s ++ List.replicate s.build.highCount.toNat .off
      else if s.cfgFlags[2] then gapTicks s else []

/-- The pulse list spelled out tick by tick, a tick being `per` microseconds. -/
def pulseTicks (per : Nat) (t : State) : List (BitVec 32 × BitVec 32) :=
  (List.range t.pulseCount.toNat).flatMap fun i =>
    List.replicate ((pmemRead t i).dur.toNat / per) ((pmemRead t i).on, (pmemRead t i).off)

end Sys2Proof.Claims

open Sys2Proof Sys2Proof.Machine Sys2Proof.Claims

/-! ### Encoding -/

/-- Decoding the code of a well-formed instruction gives it back (30_encoding.md R83 to R89, R93). -/
def Obligations.EncodeThenDecodeIsIdentity : Prop :=
  ∀ i : Instr, i.wf = true → decode (encode i) = .ok i

/-- Each code has one meaning: what a code decodes to is well formed and encodes to that code, and every code
but builder state 7 is an instruction's (30_encoding.md R83 to R89, R93). -/
def Obligations.DecodedCodeEncodesBack : Prop :=
  (∀ (e : Encoded) (i : Instr), decode e = .ok i → i.wf = true ∧ encode i = e) ∧
    ∀ e : Encoded, (∃ i, decode e = .ok i) ∨ e = .builderState 7

/-- The opcode map of 30_encoding.md R84, with what a reserved opcode does. -/
def Obligations.OperationWordFollowsTheOpcodeMap : Prop :=
  ∀ w : Word,
    ((w.extractLsb' 0 8).toNat = 0 → decodeOp w = .nop (w.extractLsb' 8 24)) ∧
    ((w.extractLsb' 0 8).toNat = 1 → decodeOp w = .pushb (w.extractLsb' 8 8) (w.extractLsb' 16 16)) ∧
    ((w.extractLsb' 0 8).toNat = 2 → decodeOp w = .loadbuf (w.extractLsb' 8 24)) ∧
    ((w.extractLsb' 0 8).toNat = 3 → decodeOp w = .encode (w.extractLsb' 8 24)) ∧
    ((w.extractLsb' 0 8).toNat = 4 → decodeOp w = .decode (w.extractLsb' 8 24)) ∧
    ((w.extractLsb' 0 8).toNat = 5 → decodeOp w = .build (w.extractLsb' 8 24)) ∧
    (6 ≤ (w.extractLsb' 0 8).toNat → ∀ s : State, s.busy = false →
      exec (decodeOp w) s = .next (illegalRecorded (w.extractLsb' 0 8).toNat s))

/-- Two operation words with the same opcode, and for PUSHB the same IMM8, do the same (30_encoding.md R86). -/
def Obligations.IgnoredBitsHaveNoEffect : Prop :=
  ∀ (w w' : Word) (s : State), s.busy = false → w.extractLsb' 0 8 = w'.extractLsb' 0 8 →
    (w.extractLsb' 0 8 = 1 → w.extractLsb' 8 8 = w'.extractLsb' 8 8) →
    exec (decodeOp w) s = exec (decodeOp w') s

/-- Codes written out from the spec's encodings decode to the instruction they stand for. -/
def Obligations.CodesFromTheSpecDecode : Prop :=
  decodeOp 0x00005A01 = .pushb 0x5A 0 ∧ decodeOp 0xABCD0003 = .encode 0xABCD00 ∧
    decodeOp 0x000000FF = .illegal80toFF 0x7F 0 ∧ decodeKind 5 = .encMood ∧
    decodeKey 0x019F = .d1Dim128 31 ∧ decodeKey 0x0201 = .d2Err 1 ∧ decodeState 3 = .ok .stSendByte

/-! ### The step -/

/-- The step runs the instruction it decodes: a host write to OP, a held OP write once BUSY is 0, the step of ST
while BUSY is 1 (20_memory.md R64, R68; 40_buffer_ops.md R120; 43_waveform.md R220). The model's choices: the order
of host and builder is the list of inputs (log 2), a held word runs as a step of its own before the next input
(log 13), and an empty list gives the builder the turn (log 22). -/
def Obligations.StepRunsTheDecodedInstruction : Prop :=
  ∀ s : State,
    (∀ w rest, s.heldOp = none → s.inputs = .write 0 w :: rest →
      step s = exec (decodeOp w) { s with inputs := rest }) ∧
    (∀ w, s.heldOp = some w → s.busy = false → (∀ rest, s.inputs ≠ .reset :: rest) →
      step s = exec (decodeOp w) { s with heldOp := none }) ∧
    (∀ i, s.busy = true → decodeState (stateCode s.st) = .ok i → s.heldOp = none → s.inputs = [] →
      step s = exec i s) ∧
    (∀ i rest, s.busy = true → decodeState (stateCode s.st) = .ok i → s.inputs = .turn :: rest →
      step s = exec i { s with inputs := rest })

/-- A code placed where the step fetches is the row the next step runs; a kind and a key run through ENCODE and
DECODE (log 17: the model's choice of where a code of the table is placed). -/
def Obligations.PlacedCodeRunsItsRow : Prop :=
  ∀ s : State,
    (∀ w, step (placeCode (.opWord w) s) = exec (decodeOp w) { s with heldOp := none }) ∧
    (∀ k, step (placeCode (.cmdKind k) s) =
      exec (decodeKind k) { placeCode (.cmdKind k) s with inputs := s.inputs }) ∧
    (∀ k, step (placeCode (.decodeKey k) s) =
      exec (decodeKey k) { placeCode (.decodeKey k) s with inputs := s.inputs }) ∧
    (∀ c i, decodeState c = .ok i → step (placeCode (.builderState c) s) =
      exec i { placeCode (.builderState c) s with inputs := s.inputs })

/-- A write to OP with BUSY = 1 is held; the builder goes on, the host's later accesses wait; with BUSY = 0 the
held write takes effect (20_memory.md R64; that the host's later accesses wait is log 13). -/
def Obligations.OpWriteWhileBusyIsHeld : Prop :=
  (∀ (w : Word) (s : State), s.busy = true → exec (decodeOp w) s = .next { s with heldOp := some w }) ∧
  (∀ (w : Word) (s : State), s.heldOp = some w → s.busy = true → (∀ rest, s.inputs ≠ .reset :: rest) →
    (∀ rest, s.inputs ≠ .turn :: rest) → step s = exec (builderInstr s) s) ∧
  (∀ (w : Word) (s : State), s.heldOp = some w → s.busy = false → (∀ rest, s.inputs ≠ .reset :: rest) →
    step s = exec (decodeOp w) { s with heldOp := none })

/-- Reads, and writes to a register other than OP, complete at once whatever BUSY is (20_memory.md R64). -/
def Obligations.OtherHostAccessesCompleteAtOnce : Prop :=
  ∀ (s : State) (rest : List Input), s.heldOp = none →
    (∀ idx, s.inputs = .read idx :: rest → step s = .next (hostRead idx { s with inputs := rest })) ∧
    (∀ idx v, idx ≠ 0 → s.inputs = .write idx v :: rest →
      step s = .next (hostWrite idx v { s with inputs := rest }))

/-- The values of reset that 70_reset_and_hazards.md R290 gives, for every build, with no OP write held (R293); and
the model's reset state is that of a build with the defaults of 00_scope.md R7 (the model's choice, log 5). -/
def Obligations.ResetValuesAreTheSpecs : Prop :=
  State.reset.build = ⟨4, 2, 7, 72, 1600⟩ ∧ State.reset = State.resetOf State.reset.build ∧
  ∀ b : BuildParams,
    let s := State.resetOf b
    s.busy = false ∧ s.bufValid = false ∧ s.decValid = false ∧ s.waveValid = false ∧
    s.lastErr = .noError ∧ s.sticky = 0 ∧ s.errInfo = 0 ∧ s.st = .idle ∧ s.stageLen = 0 ∧
    s.buf = ⟨0, 0, 0, 0, 0, 0, 0, 0, 0, 0⟩ ∧
    s.cmdKind = 0 ∧ s.cmdValue = 0 ∧ s.cmdDevice = 0 ∧ s.cmdAddr = ⟨0, 0, 0, 0, 0⟩ ∧ s.cmdRoom = 0 ∧
    s.decKind = 15 ∧ s.decValue = 0 ∧ s.decDevice = 0 ∧ s.decAddr = ⟨0, 0, 0, 0, 0⟩ ∧ s.decRoom = 0 ∧
    s.decClass = 0 ∧ s.decParam = 0 ∧
    s.cfgPin = 0 ∧ s.cfgPeriod = 140 ∧ s.cfgRepeats = 10 ∧ s.cfgGapMult = 0 ∧ s.cfgFlags = 0b101 ∧
    s.pulseCount = 0 ∧ s.total = 0 ∧ s.pidx = 0 ∧ s.bi = 0 ∧ s.bm = 0 ∧ s.rep = 0 ∧ s.gr = 0 ∧
    s.build = b ∧ s.heldOp = none

/-- The reset input gives every state its reset value at any moment, discards a held OP write and keeps the build's
constants; STAGE, TXBUF, LATCH and PMEM, which R290 leaves unspecified, are left open here
(70_reset_and_hazards.md R290, R293). That the inputs still to come and the log of reads go on over the reset is the
model's choice (log 14). -/
def Obligations.ResetInputRestoresTheResetValues : Prop :=
  ∀ (s : State) (rest : List Input), s.inputs = .reset :: rest →
    ∃ t, step s = .next t ∧
      t = { State.resetOf s.build with
        stage := t.stage, txbuf := t.txbuf, latch := t.latch, pmem := t.pmem, pmemEpoch := t.pmemEpoch
        inputs := rest, replies := s.replies, freeCount := t.freeCount }

/-! ### Buffer operations -/

/-- NOP changes nothing, and is held like any OP write while BUSY (40_buffer_ops.md R121). -/
def Obligations.NopChangesNothing : Prop :=
  ∀ (ign : BitVec 24) (s : State),
    decodeOp (opWordOf 0x00 ign) = .nop ign ∧
    (s.busy = false → exec (.nop ign) s = .next s) ∧
    (s.busy = true → exec (.nop ign) s = .next { s with heldOp := some (opWordOf 0x00 ign) })

/-- PUSHB stages its byte below ten and counts, saturating at 255 (40_buffer_ops.md R122). -/
def Obligations.PushbStagesAndCounts : Prop :=
  ∀ (b : Byte) (ign : BitVec 16) (s : State), s.busy = false →
    ∃ t, exec (.pushb b ign) s = .next t ∧
      t = { s with
        stage := t.stage
        stageLen := BitVec.ofNat 8 (min (s.stageLen.toNat + 1) 255)
        lastErr := .noError, errInfo := 0 } ∧
      ∀ j, j < 10 → byteAt t.stage j = if j = s.stageLen.toNat then some b else byteAt s.stage j

/-- LOADBUF commits exactly ten bytes and empties the staging area either way (40_buffer_ops.md R123). -/
def Obligations.LoadbufCommitsExactlyTenBytes : Prop :=
  ∀ (ign : BitVec 24) (s : State), s.busy = false →
    (s.stageLen.toNat = 10 →
      exec (.loadbuf ign) s =
        .next { s with stageLen := 0, buf := s.stage, bufValid := true, lastErr := .noError, errInfo := 0 }) ∧
    (s.stageLen.toNat ≠ 10 →
      exec (.loadbuf ign) s = .next (validationRecorded 1 s.stageLen.toNat { s with stageLen := 0 }))

/-- The length law: n pushes from an empty staging area and a LOADBUF succeed exactly when n = 10
(40_buffer_ops.md R125). -/
def Obligations.PushesThenLoadbufObeyTheLengthLaw : Prop :=
  ∀ (bs : List Byte) (s : State), s.busy = false → s.stageLen = 0 →
    ∃ t, runList (bs.map (fun b => .pushb b 0) ++ [.loadbuf 0]) s = .next t ∧
      (bs.length = 10 → bytes t.buf = bs ∧ t.bufValid = true ∧ t.lastErr = .noError) ∧
      (bs.length ≠ 10 → t.buf = s.buf ∧ t.bufValid = s.bufValid ∧ t.lastErr = .validation ∧
        t.errInfo = BitVec.ofNat 32 (0x10000 + min bs.length 255))

/-- Every reserved opcode raises IllegalOpcode with the opcode, and changes nothing else (40_buffer_ops.md R124). -/
def Obligations.ReservedOpcodesRaiseIllegalOpcode : Prop :=
  ∀ (ign : BitVec 24) (s : State), s.busy = false →
    (∀ lo, exec (.illegal06to07 lo ign) s = .next (illegalRecorded (0x06 + lo.toNat) s)) ∧
    (∀ lo, exec (.illegal08to0F lo ign) s = .next (illegalRecorded (0x08 + lo.toNat) s)) ∧
    (∀ lo, exec (.illegal10to1F lo ign) s = .next (illegalRecorded (0x10 + lo.toNat) s)) ∧
    (∀ lo, exec (.illegal20to3F lo ign) s = .next (illegalRecorded (0x20 + lo.toNat) s)) ∧
    (∀ lo, exec (.illegal40to7F lo ign) s = .next (illegalRecorded (0x40 + lo.toNat) s)) ∧
    (∀ lo, exec (.illegal80toFF lo ign) s = .next (illegalRecorded (0x80 + lo.toNat) s))

/-! ### The codec -/

/-- ENCODE writes the buffer of the encode table, or records EncodingError and produces no buffer
(30_encoding.md R95; 41_codec.md R140, R149). -/
def Obligations.EncodeFollowsTheEncodeTable : Prop :=
  ∀ (ign : BitVec 24) (s : State), s.busy = false →
    exec (.encode ign) s =
      match encTable s.cmdKind.toNat s.cmdValue.toNat with
      | some (cls, p) => .next (encoded cls p s)
      | none => .next (encodingErrorRecorded s.cmdKind.toNat s)

/-- Each sub-operation of ENCODE writes the class and parameter of its kind; an unmapped kind records
EncodingError (41_codec.md R141 to R149; the buffer and the status R140, R150). That a row acts in every state,
whatever BUSY and CMD_KIND hold, is the model's choice (log 1). -/
def Obligations.EncodeRowsWriteTheirBuffer : Prop :=
  ∀ s : State,
    exec .encOn s = .next (encoded 1 0 s) ∧
    exec .encOff s = .next (encoded 0 64 s) ∧
    exec .encDim s = .next (encoded 1 ((s.cmdValue.toNat + 64) % 256) s) ∧
    exec .encIncrease s = .next (encoded 1 ((s.cmdValue.toNat + 160) % 256) s) ∧
    exec .encDecrease s = .next (encoded 0 160 s) ∧
    exec .encMood s = .next (encoded 2 ((s.cmdValue.toNat + 2) % 256) s) ∧
    exec .encAllOn s = .next (encoded 1 ((s.cmdValue.toNat + 192) % 256) s) ∧
    exec .encAllOff s = .next (encoded 0 192 s) ∧
    ∀ lo, exec (.encUnmapped lo) s = .next (encodingErrorRecorded (8 + lo.toNat) s)

/-- ENCODE does what the row of its kind does (30_encoding.md R87, R88, R95). -/
def Obligations.EncodeRunsTheRowOfItsKind : Prop :=
  ∀ (ign : BitVec 24) (s : State), s.busy = false → exec (.encode ign) s = exec (decodeKind s.cmdKind) s

/-- DECODE without a buffer records NO_BUFFER; with one it copies device, address, room, class and param, and
classifies by the decode table (41_codec.md R161, R178). -/
def Obligations.DecodeFollowsTheDecodeTable : Prop :=
  ∀ (ign : BitVec 24) (s : State), s.busy = false →
    (s.bufValid = false → exec (.decode ign) s = .next (validationRecorded 4 0 s)) ∧
    (s.bufValid = true →
      exec (.decode ign) s =
        match decTable s.buf.b3.toNat ((s.buf.b0.toNat * 16 % 256) ||| s.buf.b1.toNat) with
        | some (kind, value) =>
          .next (decodedAs s.buf.b3.toNat ((s.buf.b0.toNat * 16 % 256) ||| s.buf.b1.toNat) kind value s)
        | none =>
          .next (decodeErrorRecorded s.buf.b3.toNat ((s.buf.b0.toNat * 16 % 256) ||| s.buf.b1.toNat) s))

/-- The rows of class 0 and class 1: the key of each (30_encoding.md R93), and its result (41_codec.md R161 to R173).
That a row acts in every state, its class and param taken from its operand whatever BUF and BUF_VALID hold, is the
model's choice (log 1). -/
def Obligations.DecodeRowsOfClasses0And1 : Prop :=
  ∀ s : State,
    (∀ p, decodeKey (keyOf 0 (BitVec.ofNat 8 p.toNat)) = .d0Off p ∧
      exec (.d0Off p) s = .next (decodedAs 0 p.toNat 1 0 s)) ∧
    (∀ p, decodeKey (keyOf 0 (BitVec.ofNat 8 (128 + p.toNat))) = .d0Dim p ∧
      exec (.d0Dim p) s = .next (decodedAs 0 (128 + p.toNat) 2 p.toNat s)) ∧
    (∀ p, decodeKey (keyOf 0 (BitVec.ofNat 8 (160 + p.toNat))) = .d0Decrease p ∧
      exec (.d0Decrease p) s = .next (decodedAs 0 (160 + p.toNat) 4 160 s)) ∧
    (∀ p, decodeKey (keyOf 0 (BitVec.ofNat 8 (192 + p.toNat))) = .d0AllOff p ∧
      exec (.d0AllOff p) s = .next (decodedAs 0 (192 + p.toNat) 7 192 s)) ∧
    (∀ p, decodeKey (keyOf 1 (BitVec.ofNat 8 p.toNat)) = .d1On p ∧
      exec (.d1On p) s = .next (decodedAs 1 p.toNat 0 0 s)) ∧
    (∀ p, decodeKey (keyOf 1 (BitVec.ofNat 8 (32 + p.toNat))) = .d1Dim32 p ∧
      exec (.d1Dim32 p) s = .next (decodedAs 1 (32 + p.toNat) 2 p.toNat s)) ∧
    (∀ p, decodeKey (keyOf 1 (BitVec.ofNat 8 (64 + p.toNat))) = .d1Dim64 p ∧
      exec (.d1Dim64 p) s = .next (decodedAs 1 (64 + p.toNat) 2 p.toNat s)) ∧
    (∀ p, decodeKey (keyOf 1 (BitVec.ofNat 8 (96 + p.toNat))) = .d1Dim96 p ∧
      exec (.d1Dim96 p) s = .next (decodedAs 1 (96 + p.toNat) 2 p.toNat s)) ∧
    (∀ p, decodeKey (keyOf 1 (BitVec.ofNat 8 (128 + p.toNat))) = .d1Dim128 p ∧
      exec (.d1Dim128 p) s = .next (decodedAs 1 (128 + p.toNat) 2 p.toNat s)) ∧
    (∀ p, decodeKey (keyOf 1 (BitVec.ofNat 8 (160 + p.toNat))) = .d1Increase p ∧
      exec (.d1Increase p) s = .next (decodedAs 1 (160 + p.toNat) 3 160 s)) ∧
    (∀ p, decodeKey (keyOf 1 (BitVec.ofNat 8 (192 + p.toNat))) = .d1AllOn192 p ∧
      exec (.d1AllOn192 p) s = .next (decodedAs 1 (192 + p.toNat) 6 p.toNat s)) ∧
    (∀ p, decodeKey (keyOf 1 (BitVec.ofNat 8 (224 + p.toNat))) = .d1AllOn224 p ∧
      exec (.d1AllOn224 p) s = .next (decodedAs 1 (224 + p.toNat) 6 p.toNat s))

/-- The mood rows and the error rows: the key of each (30_encoding.md R93), and its result (41_codec.md R161, R174 to
R177). That a row acts in every state, its class and param taken from its operand whatever BUF and BUF_VALID hold, is
the model's choice (log 1). -/
def Obligations.DecodeRowsOfMoodAndErrors : Prop :=
  ∀ s : State,
    (∀ p : Byte, 2 ≤ p.toNat → p.toNat ≤ 129 → decodeKey (keyOf 2 p) = .d2MoodLo p ∧
      exec (.d2MoodLo p) s = .next (decodedAs 2 p.toNat 5 (p.toNat - 1) s)) ∧
    (∀ p : Byte, 130 ≤ p.toNat → decodeKey (keyOf 2 p) = .d2MoodHi p ∧
      exec (.d2MoodHi p) s = .next (decodedAs 2 p.toNat 5 (p.toNat - 129) s)) ∧
    (∀ p, decodeKey (keyOf 2 (BitVec.ofNat 8 p.toNat)) = .d2Err p ∧
      exec (.d2Err p) s = .next (decodeErrorRecorded 2 p.toNat s)) ∧
    (∀ p, decodeKey (keyOf 3 p) = .dxErr03 p ∧
      exec (.dxErr03 p) s = .next (decodeErrorRecorded 3 p.toNat s)) ∧
    (∀ c p, decodeKey (keyOf (BitVec.ofNat 8 (4 + c.toNat)) p) = .dxErr04to07 c p ∧
      exec (.dxErr04to07 c p) s = .next (decodeErrorRecorded (4 + c.toNat) p.toNat s)) ∧
    (∀ c p, decodeKey (keyOf (BitVec.ofNat 8 (8 + c.toNat)) p) = .dxErr08to0F c p ∧
      exec (.dxErr08to0F c p) s = .next (decodeErrorRecorded (8 + c.toNat) p.toNat s)) ∧
    (∀ c p, decodeKey (keyOf (BitVec.ofNat 8 (16 + c.toNat)) p) = .dxErr10to1F c p ∧
      exec (.dxErr10to1F c p) s = .next (decodeErrorRecorded (16 + c.toNat) p.toNat s)) ∧
    (∀ c p, decodeKey (keyOf (BitVec.ofNat 8 (32 + c.toNat)) p) = .dxErr20to3F c p ∧
      exec (.dxErr20to3F c p) s = .next (decodeErrorRecorded (32 + c.toNat) p.toNat s)) ∧
    (∀ c p, decodeKey (keyOf (BitVec.ofNat 8 (64 + c.toNat)) p) = .dxErr40to7F c p ∧
      exec (.dxErr40to7F c p) s = .next (decodeErrorRecorded (64 + c.toNat) p.toNat s)) ∧
    (∀ c p, decodeKey (keyOf (BitVec.ofNat 8 (128 + c.toNat)) p) = .dxErr80toFF c p ∧
      exec (.dxErr80toFF c p) s = .next (decodeErrorRecorded (128 + c.toNat) p.toNat s))

/-- DECODE with a buffer does what the row of its key does (30_encoding.md R93; 41_codec.md R160, R178). -/
def Obligations.DecodeRunsTheRowOfItsKey : Prop :=
  ∀ (ign : BitVec 24) (s : State), s.busy = false → s.bufValid = true →
    exec (.decode ign) s = exec (decodeKey (keyOf s.buf.b3 (paramOf s.buf))) s

/-- A successful DECODE gives a value in the range of its kind (41_codec.md R179). -/
def Obligations.DecodedValuesStayInTheirRanges : Prop :=
  ∀ (ign : BitVec 24) (s t : State), s.busy = false → exec (.decode ign) s = .next t →
    t.lastErr = .noError →
    (t.decKind = 2 ∧ t.decValue.toNat ≤ 31) ∨ (t.decKind = 6 ∧ t.decValue.toNat ≤ 31) ∨
    (t.decKind = 5 ∧ 1 ≤ t.decValue.toNat ∧ t.decValue.toNat ≤ 128) ∨
    (t.decKind = 0 ∧ t.decValue = 0) ∨ (t.decKind = 1 ∧ t.decValue = 0) ∨
    (t.decKind = 4 ∧ t.decValue = 160) ∨ (t.decKind = 3 ∧ t.decValue = 160) ∨
    (t.decKind = 7 ∧ t.decValue = 192)

/-- DECODE after ENCODE: the table of 41_codec.md R180, and the command comes back exactly when it is a valid
command. -/
def Obligations.DecodeAfterEncodeFollowsTheRoundTripTable : Prop :=
  ∀ (i j : BitVec 24) (s : State), s.busy = false → s.cmdKind.toNat ≤ 7 →
    ∃ t u, exec (.encode i) s = .next t ∧ exec (.decode j) t = .next u ∧
      u.decDevice = s.cmdDevice ∧ u.decAddr = s.cmdAddr ∧ u.decRoom = s.cmdRoom ∧
      (∀ k v, roundTrip s.cmdKind.toNat s.cmdValue.toNat = some (k, v) →
        u.decKind.toNat = k ∧ u.decValue.toNat = v ∧ u.decValid = true ∧ u.lastErr = .noError) ∧
      (roundTrip s.cmdKind.toNat s.cmdValue.toNat = none →
        u.decKind = 15 ∧ u.decValid = false ∧ u.lastErr = .decoding) ∧
      ((u.decKind = s.cmdKind ∧ u.decValue = s.cmdValue) ↔ ValidCommand s.cmdKind.toNat s.cmdValue.toNat)

/-- ENCODE of what DECODE gave restores the buffer exactly when the buffer is the image of a valid command; a class-0
Dim comes back with class 1, a Mood with another parameter (41_codec.md R181). -/
def Obligations.EncodeAfterDecodeRestoresOnlyImages : Prop :=
  ∀ (i j : BitVec 24) (s t : State), s.busy = false → exec (.decode i) s = .next t → t.lastErr = .noError →
    ∃ u, exec (.encode j) { t with
        cmdKind := t.decKind, cmdValue := t.decValue, cmdDevice := t.decDevice, cmdAddr := t.decAddr
        cmdRoom := t.decRoom } = .next u ∧
      (u.buf = s.buf ↔ EncodeImage s.buf) ∧
      (s.buf.b3 = 0 → t.decKind = 2 → u.buf.b3 = 1) ∧
      (t.decKind = 5 → paramOf u.buf ≠ paramOf s.buf)

/-! ### BUILD and the builder -/

/-- BUILD clears the waveform, validates in order, then latches the configuration, translates and starts
(43_waveform.md R210 to R213; 42_nibble.md R200, R203). -/
def Obligations.BuildClearsValidatesAndLatches : Prop :=
  ∀ (ign : BitVec 24) (s : State), s.busy = false →
    let c : State := { s with waveValid := false, pulseCount := 0, total := 0 }
    exec (.build ign) s =
      if s.bufValid = false then .next (validationRecorded 4 0 c)
      else if s.cfgRepeats = 0 then .next (validationRecorded 2 0 c)
      else if s.cfgPeriod = 0 then .next (validationRecorded 3 0 c)
      else .next { c with
        latch := ⟨s.cfgPin, s.cfgPeriod, s.cfgRepeats, s.cfgGapMult, s.cfgFlags[1], s.cfgFlags[2]⟩
        txbuf := transmitted s
        rep := 0, bi := 0, bm := 0, gr := 0, st := .messageStart, busy := true
        lastErr := .noError, errInfo := 0 }

/-- MessageStart (43_waveform.md R222). The row acts whatever BUSY and ST hold (log 1). -/
def Obligations.MessageStartSendsItsFramingPulse : Prop :=
  ∀ s : State, s.build.wf = true → ReadyForOn s → s.pulseCount.toNat + 2 ≤ s.build.maxPulses.toNat →
    ∃ t, exec .stMessageStart s = .next t ∧ OnSegmentAppended s t ∧
      t = { s with
        bi := 0, st := .byteStart, pmem := t.pmem, pulseCount := t.pulseCount, total := t.total }

/-- ByteStart (43_waveform.md R223). The row acts whatever BUSY and ST hold (log 1). -/
def Obligations.ByteStartSendsItsPulseAndStartsAtTheTopBit : Prop :=
  ∀ s : State, s.build.wf = true → ReadyForOn s → s.pulseCount.toNat + 2 ≤ s.build.maxPulses.toNat →
    ∃ t, exec .stByteStart s = .next t ∧ OnSegmentAppended s t ∧
      t = { s with
        bm := 0x80, st := .sendByte, pmem := t.pmem, pulseCount := t.pulseCount, total := t.total }

/-- SendByte sends the bit `TXBUF[BI] & BM`, a 1 as an ON segment and a 0 as an OFF segment, and walks to the next
bit, byte or MessageEnd (43_waveform.md R224). -/
def Obligations.SendByteSendsOneBit : Prop :=
  ∀ (s : State) (b : Byte), s.build.wf = true → byteAt s.txbuf s.bi.toNat = some b → s.st = .sendByte →
    (b &&& s.bm ≠ 0 → ReadyForOn s → s.pulseCount.toNat + 2 ≤ s.build.maxPulses.toNat →
      ∃ t, exec .stSendByte s = .next t ∧ OnSegmentAppended s t ∧
        t = { s with
          bm := s.bm >>> 1
          bi := if s.bm >>> 1 = 0 then s.bi + 1 else s.bi
          st := if s.bm >>> 1 = 0 then (if s.bi.toNat = 9 then .messageEnd else .byteStart) else .sendByte
          pmem := t.pmem, pulseCount := t.pulseCount, total := t.total }) ∧
    (b &&& s.bm = 0 → LastPulseOff s →
      ∃ t, exec .stSendByte s = .next t ∧ OffSegmentMerged s.build.lowCount.toNat s t ∧
        t = { s with
          bm := s.bm >>> 1
          bi := if s.bm >>> 1 = 0 then s.bi + 1 else s.bi
          st := if s.bm >>> 1 = 0 then (if s.bi.toNat = 9 then .messageEnd else .byteStart) else .sendByte
          pmem := t.pmem, pulseCount := t.pulseCount, total := t.total })

/-- MessageEnd finishes the last message of a build without a trailing gap, and starts a gap otherwise
(43_waveform.md R225, R228). The row acts whatever BUSY and ST hold (log 1). -/
def Obligations.MessageEndFinishesOrStartsTheGap : Prop :=
  ∀ s : State, s.build.wf = true → ReadyForOn s → s.pulseCount.toNat + 2 ≤ s.build.maxPulses.toNat →
    ∃ t, exec .stMessageEnd s = .next t ∧ OnSegmentAppended s t ∧
      (s.latch.trailing = false ∧ s.latch.repeats.toNat ≤ s.rep.toNat + 1 →
        t = { s with
          rep := s.rep + 1, st := .idle, busy := false, waveValid := true
          pmem := t.pmem, pulseCount := t.pulseCount, total := t.total }) ∧
      (¬ (s.latch.trailing = false ∧ s.latch.repeats.toNat ≤ s.rep.toNat + 1) →
        t = { s with
          gr := s.latch.gapMult, st := .gapStart
          pmem := t.pmem, pulseCount := t.pulseCount, total := t.total })

/-- GapStart sends one gap unit and counts the extensions down (43_waveform.md R226). -/
def Obligations.GapStartSendsOneGapUnit : Prop :=
  ∀ s : State, LastPulseOff s → s.st = .gapStart →
    ∃ t, exec .stGapStart s = .next t ∧ OffSegmentMerged s.build.gapCount.toNat s t ∧
      t = { s with
        gr := if s.gr = 0 then 0 else s.gr - 1
        st := if s.gr = 0 then .gapEnd else .gapStart
        pmem := t.pmem, total := t.total }

/-- GapEnd counts the repetition, then finishes without a segment or restarts after HIGH_COUNT ticks OFF
(43_waveform.md R227, R228). That REP + 1 is compared with N before it is stored in eight bits is the model's reading
(log 12); it matters only at REP = 255, which 10_state.md R52 excludes. -/
def Obligations.GapEndFinishesOrRestarts : Prop :=
  ∀ s : State,
    (s.latch.repeats.toNat ≤ s.rep.toNat + 1 →
      exec .stGapEnd s = .next { s with rep := s.rep + 1, st := .idle, busy := false, waveValid := true }) ∧
    (s.rep.toNat + 1 < s.latch.repeats.toNat → LastPulseOff s →
      ∃ t, exec .stGapEnd s = .next t ∧ OffSegmentMerged s.build.highCount.toNat s t ∧
        t = { s with rep := s.rep + 1, st := .messageStart, pmem := t.pmem, total := t.total })

/-- Idle has no builder step (43_waveform.md R220). The model's choices: the row of Idle leaves every state as it is
(log 1), and a step with nothing enabled is that row (log 15). -/
def Obligations.IdleHasNoBuilderStep : Prop :=
  ∀ s : State, exec .stIdle s = .next s ∧
    (s.busy = false → s.heldOp = none → s.inputs = [] → step s = .next s)

/-- An ON segment that does not fit aborts the build with CapacityExceeded and withholds the pulse list
(43_waveform.md R229). The model's choices: BI, BM, REP and GR keep their values, as R229 says and entry U4 of
93_implementation_defined.md leaves open (log 7); a row acts in every state, so INFO_STATE is the code of the failing
action where ST names the row (log 1). -/
def Obligations.OnSegmentBeyondCapacityAborts : Prop :=
  ∀ (i : Instr) (s : State), SendsOnSegment i s → ReadyForOn s →
    s.pulseCount.toNat ≤ s.build.maxPulses.toNat → s.build.maxPulses.toNat < s.pulseCount.toNat + 2 →
    ∃ t, exec i s = .next t ∧
      t = { s with
        bi := if i = .stMessageStart then 0 else s.bi
        bm := if i = .stByteStart then 0x80 else s.bm
        lastErr := .capacity
        errInfo := BitVec.ofNat 32 (s.build.maxPulses.toNat + 0x1000000 * (stateCode s.st).toNat)
        sticky := s.sticky ||| 0b001000
        pulseCount := 0, total := 0, waveValid := false, st := .idle, busy := false
        pmem := t.pmem, pmemEpoch := t.pmemEpoch }

/-- `add_pulse` merges with a last pulse of the same masks, else appends below the capacity, else aborts; a merge
never fails (43_waveform.md R230). -/
def Obligations.AddPulseMergesAppendsOrAborts : Prop :=
  ∀ (lvl : Level) (d : BitVec 64) (s : State),
    let n := s.pulseCount.toNat
    let same := 0 < n ∧ ((pmemRead s (n - 1)).on, (pmemRead s (n - 1)).off) = masks s.latch lvl
    (same → ∃ t, addPulse lvl d s = .went t ∧ t = { s with pmem := t.pmem, total := s.total + d } ∧
      pmemRead t (n - 1) = { pmemRead s (n - 1) with dur := (pmemRead s (n - 1)).dur + d } ∧
      ∀ i, i ≠ n - 1 → pmemRead t i = pmemRead s i) ∧
    (¬ same → s.pulseCount ≠ s.build.maxPulses →
      ∃ t, addPulse lvl d s = .went t ∧
      t = { s with pmem := t.pmem, pulseCount := s.pulseCount + 1, total := s.total + d } ∧
      pmemRead t n = ⟨(masks s.latch lvl).1, (masks s.latch lvl).2, d⟩ ∧
      ∀ i, i ≠ n → pmemRead t i = pmemRead s i) ∧
    (¬ same → s.pulseCount = s.build.maxPulses → addPulse lvl d s = .aborted (capacityAbort s))

/-- The pin mask has the one bit of the pin, and inversion swaps the pair (43_waveform.md R233). -/
def Obligations.MaskPairsOfThePin : Prop :=
  ∀ l : Latch,
    (∀ i : Fin 32, (pinMask l)[i] = decide (i.val = l.pin.toNat)) ∧
    (l.invert = false → masks l .on = (pinMask l, 0) ∧ masks l .off = (0, pinMask l)) ∧
    (l.invert = true → masks l .on = (0, pinMask l) ∧ masks l .off = (pinMask l, 0))

/-! ### Errors and registers -/

/-- `raise` records the code, the payload fields and the STICKY bit 16 + code of STATUS, and nothing else
(60_exceptions.md R264; 10_state.md R25, R26). -/
def Obligations.RaiseRecordsCodePayloadAndStickyBit : Prop :=
  ∀ (e : ErrCode) (a b : Byte) (sub : BitVec 4) (t : BuilderState) (s : State),
    let r := raise e a b sub t s
    r = { s with lastErr := e, errInfo := r.errInfo, sticky := r.sticky } ∧
    r.errInfo.extractLsb' 0 8 = a ∧ r.errInfo.extractLsb' 8 8 = b ∧ r.errInfo.extractLsb' 16 4 = sub ∧
    r.errInfo.extractLsb' 20 4 = 0 ∧ r.errInfo.extractLsb' 24 3 = stateCode t ∧
    r.errInfo.extractLsb' 27 5 = 0 ∧
    ∀ k : Fin 6, r.sticky[k] = (s.sticky[k] || decide (k.val + 1 = (errCode e).toNat))

/-- The fields of STATUS (10_state.md R25). -/
def Obligations.StatusHoldsItsFields : Prop :=
  ∀ s : State,
    (readReg .status s).extractLsb' 0 1 = BitVec.ofBool s.busy ∧
    (readReg .status s).extractLsb' 1 1 = BitVec.ofBool s.bufValid ∧
    (readReg .status s).extractLsb' 2 1 = BitVec.ofBool s.decValid ∧
    (readReg .status s).extractLsb' 3 1 = BitVec.ofBool s.waveValid ∧
    (readReg .status s).extractLsb' 4 4 = 0 ∧
    (readReg .status s).extractLsb' 8 4 = errCode s.lastErr ∧
    (readReg .status s).extractLsb' 12 5 = 0 ∧
    (readReg .status s).extractLsb' 17 6 = s.sticky ∧
    (readReg .status s).extractLsb' 23 1 = 0 ∧
    (readReg .status s).extractLsb' 24 3 = stateCode s.st ∧
    (readReg .status s).extractLsb' 27 5 = 0

/-- A write to an RW register is read back in its field; no other register's value changes, but for the window
registers when PIDX is written (10_state.md R23); a write to an RO register has no effect (R22). `hostWrite` is the
store that a register write makes: at the index of OP it stores nothing, since OP holds no state (R24), and the
operation that a host write to OP issues is not made here but by `step`. -/
def Obligations.RegisterWritesStoreTheirField : Prop :=
  ∀ (r : Reg) (v : Word) (s : State),
    hostWrite (regIndex r) v s = writeReg r v s ∧
    (∀ n, rwWidth r = some n → readReg r (writeReg r v s) = BitVec.ofNat 32 (v.toNat % 2 ^ n)) ∧
    (rwWidth r = none → writeReg r v s = s) ∧
    ∀ r', r' ≠ r → (r = .pidx → r' ≠ .pOn ∧ r' ≠ .pOff ∧ r' ≠ .pDurLo ∧ r' ≠ .pDurHi) →
      readReg r' (writeReg r v s) = readReg r' s

/-- A reserved index reads 0 and ignores writes; a reserved bit of a register reads 0; OP reads 0
(10_state.md R22). -/
def Obligations.ReservedIndicesAndBitsReadZero : Prop :=
  (∀ (idx : BitVec 8) (v : Word) (s : State), (∀ r, regIndex r ≠ idx) →
    readValue idx s = 0 ∧ hostWrite idx v s = s) ∧
  (∀ (r : Reg) (s : State), ErrorsLegal s → readReg r s &&& ~~~ (fieldMask r) = 0) ∧
  (∀ s : State, readReg .op s = 0)

/-- Every register but OP and STATUS as the host reads it: the window registers, TOTAL's halves, the byte lanes of BUF,
the build constants, ERRINFO, STAGE_LEN, the decode outputs and PULSE_COUNT, which are read-only; and the registers
that the host writes (10_state.md R26 to R28, R30 to R37, R39, R40, R42, R43; 20_memory.md R65). -/
def Obligations.ReadOnlyRegistersShowTheirState : Prop :=
  ∀ s : State,
    (s.pidx.toNat < s.pulseCount.toNat →
      readReg .pOn s = (pmemRead s s.pidx.toNat).on ∧ readReg .pOff s = (pmemRead s s.pidx.toNat).off ∧
      readReg .pDurLo s = (pmemRead s s.pidx.toNat).dur.extractLsb' 0 32 ∧
      readReg .pDurHi s = (pmemRead s s.pidx.toNat).dur.extractLsb' 32 32) ∧
    (s.pulseCount.toNat ≤ s.pidx.toNat →
      readReg .pOn s = 0 ∧ readReg .pOff s = 0 ∧ readReg .pDurLo s = 0 ∧ readReg .pDurHi s = 0) ∧
    (readReg .totalLo s).toNat + 2 ^ 32 * (readReg .totalHi s).toNat = s.total.toNat ∧
    (∀ k b, k < 4 → byteAt s.buf k = some b → (readReg .bufW0 s).extractLsb' (8 * k) 8 = b) ∧
    (∀ k b, k < 4 → byteAt s.buf (4 + k) = some b → (readReg .bufW1 s).extractLsb' (8 * k) 8 = b) ∧
    (∀ k b, k < 2 → byteAt s.buf (8 + k) = some b → (readReg .bufW2 s).extractLsb' (8 * k) 8 = b) ∧
    (readReg .bufW2 s).extractLsb' 16 16 = 0 ∧
    (readReg .param0 s).extractLsb' 0 8 = s.build.highCount ∧
    (readReg .param0 s).extractLsb' 8 8 = s.build.trailCount ∧
    (readReg .param0 s).extractLsb' 16 8 = s.build.lowCount ∧
    (readReg .param0 s).extractLsb' 24 8 = s.build.gapCount ∧
    (readReg .param1 s).toNat = s.build.maxPulses.toNat ∧
    readReg .errInfo s = s.errInfo ∧
    (readReg .stageLen s).toNat = s.stageLen.toNat ∧
    (readReg .decKind s).toNat = s.decKind.toNat ∧
    (readReg .decValue s).toNat = s.decValue.toNat ∧
    (readReg .decDevice s).toNat = s.decDevice.toNat ∧
    (readReg .decAddrLo s).extractLsb' 0 8 = s.decAddr.a0 ∧
    (readReg .decAddrLo s).extractLsb' 8 8 = s.decAddr.a1 ∧
    (readReg .decAddrLo s).extractLsb' 16 8 = s.decAddr.a2 ∧
    (readReg .decAddrLo s).extractLsb' 24 8 = s.decAddr.a3 ∧
    (readReg .decAddrHi s).toNat = s.decAddr.a4.toNat ∧
    (readReg .decRoom s).toNat = s.decRoom.toNat ∧
    (readReg .decClass s).toNat = s.decClass.toNat ∧
    (readReg .decParam s).toNat = s.decParam.toNat ∧
    (readReg .pulseCount s).toNat = s.pulseCount.toNat ∧
    (readReg .cmdKind s).toNat = s.cmdKind.toNat ∧
    (readReg .cmdValue s).toNat = s.cmdValue.toNat ∧
    (readReg .cmdDevice s).toNat = s.cmdDevice.toNat ∧
    (readReg .cmdAddrLo s).extractLsb' 0 8 = s.cmdAddr.a0 ∧
    (readReg .cmdAddrLo s).extractLsb' 8 8 = s.cmdAddr.a1 ∧
    (readReg .cmdAddrLo s).extractLsb' 16 8 = s.cmdAddr.a2 ∧
    (readReg .cmdAddrLo s).extractLsb' 24 8 = s.cmdAddr.a3 ∧
    (readReg .cmdAddrHi s).toNat = s.cmdAddr.a4.toNat ∧
    (readReg .cmdRoom s).toNat = s.cmdRoom.toNat ∧
    (readReg .cfgPin s).toNat = s.cfgPin.toNat ∧
    (readReg .cfgPeriod s).toNat = s.cfgPeriod.toNat ∧
    (readReg .cfgRepeats s).toNat = s.cfgRepeats.toNat ∧
    (readReg .cfgGapMult s).toNat = s.cfgGapMult.toNat ∧
    (readReg .cfgFlags s).toNat = s.cfgFlags.toNat ∧
    (readReg .pidx s).toNat = s.pidx.toNat

/-- A read changes nothing but the host's side, and returns the register, except that the waveform registers return
a free value while BUSY (20_memory.md R63, R69; log 3). -/
def Obligations.ReadsHaveNoSideEffect : Prop :=
  ∀ (r : Reg) (s : State),
    (∃ n, hostRead (regIndex r) s =
      { s with replies := ⟨regIndex r, readValue (regIndex r) s⟩ :: s.replies, freeCount := n }) ∧
    (s.busy = false ∨ openDuringBuild r = false → readValue (regIndex r) s = readReg r s) ∧
    (s.busy = true → openDuringBuild r = true →
      readValue (regIndex r) s = Config.freeRead s.freeCount ∧
      (hostRead (regIndex r) s).freeCount = s.freeCount + 1)

/-- A register write or a read before a builder step leaves what the step does as it is: a build in progress does
not depend on the host (20_memory.md R71, R72; 43_waveform.md R220). -/
def Obligations.HostAccessesDoNotDisturbTheBuilder : Prop :=
  ∀ (i : Instr) (idx : BitVec 8) (v : Word) (s : State), IsBuilderRow i →
    exec i (hostWrite idx v s) = mapNext (hostWrite idx v) (exec i s) ∧
    exec i (hostRead idx s) =
      mapNext (fun t => { t with replies := (hostRead idx s).replies, freeCount := (hostRead idx s).freeCount })
        (exec i s)

/-! ### Invariants and whole-machine rules -/

/-- The reset state of every build is legal in every sense of Safety.lean (10_state.md R52). -/
def Obligations.ResetStateIsLegal : Prop :=
  ∀ b : BuildParams,
    Legal (State.resetOf b) ∧ PmemCanonical (State.resetOf b) ∧ WaveformLegal (State.resetOf b) ∧
      ErrorsLegal (State.resetOf b) ∧ DecodeOutputsLegal (State.resetOf b)

/-- Every step keeps the invariants of 10_state.md R52. -/
def Obligations.StepKeepsLegal : Prop :=
  ∀ s t : State, Legal s → step s = .next t → Legal t

/-- Every step keeps the pulse memory's canonical form (10_state.md R38, R39). -/
def Obligations.StepKeepsPmemCanonical : Prop :=
  ∀ s t : State, Legal s → PmemCanonical s → step s = .next t → PmemCanonical t

/-- Every step keeps the shape of the pulse list: alternation, the duration of ON pulses, TOTAL the sum of the
durations (43_waveform.md R243, R244). -/
def Obligations.StepKeepsWaveformLegal : Prop :=
  ∀ s t : State, Legal s → WaveformLegal s → step s = .next t → WaveformLegal t

/-- Every step keeps the error record legal; DeviceError never occurs (60_exceptions.md R264, R266, R268). -/
def Obligations.StepKeepsErrorsLegal : Prop :=
  ∀ s t : State, ErrorsLegal s → step s = .next t → ErrorsLegal t

/-- Every step keeps the decode outputs legal (30_encoding.md R88; 10_state.md R31, R32). -/
def Obligations.StepKeepsDecodeOutputsLegal : Prop :=
  ∀ s t : State, DecodeOutputsLegal s → step s = .next t → DecodeOutputsLegal t

/-- A legal state never stops: no error stops the block (60_exceptions.md R270). -/
def Obligations.LegalStateNeverStops : Prop :=
  ∀ s : State, Legal s → Safe s

/-- No instruction clears a STICKY bit, and no step does but a reset (10_state.md R50). -/
def Obligations.StickyBitsOnlyGrow : Prop :=
  (∀ (i : Instr) (s t : State), exec i s = .next t → s.sticky &&& t.sticky = s.sticky) ∧
  ∀ s t : State, (∀ rest, s.inputs ≠ .reset :: rest) → step s = .next t → s.sticky &&& t.sticky = s.sticky

/-- BUF changes only by LOADBUF and ENCODE, and BUF_VALID is never cleared (10_state.md R28, R29). -/
def Obligations.BufferChangesOnlyByLoadbufOrEncode : Prop :=
  (∀ (i : Instr) (s t : State), exec i s = .next t →
    (¬ MayWriteBuf i → t.buf = s.buf ∧ t.bufValid = s.bufValid) ∧ (s.bufValid = true → t.bufValid = true)) ∧
  ∀ (idx : BitVec 8) (v : Word) (s : State),
    (hostWrite idx v s).buf = s.buf ∧ (hostWrite idx v s).bufValid = s.bufValid ∧
      (hostRead idx s).buf = s.buf ∧ (hostRead idx s).bufValid = s.bufValid

/-- No instruction writes a register that the host writes, nor the build's constants; the waveform and the builder's
state change only by BUILD and the builder's steps (10_state.md R23, R39, R41, R43). -/
def Obligations.EachGroupOfStateHasItsWriters : Prop :=
  ∀ (i : Instr) (s t : State), exec i s = .next t →
    t.cmdKind = s.cmdKind ∧ t.cmdValue = s.cmdValue ∧ t.cmdDevice = s.cmdDevice ∧ t.cmdAddr = s.cmdAddr ∧
    t.cmdRoom = s.cmdRoom ∧ t.cfgPin = s.cfgPin ∧ t.cfgPeriod = s.cfgPeriod ∧ t.cfgRepeats = s.cfgRepeats ∧
    t.cfgGapMult = s.cfgGapMult ∧ t.cfgFlags = s.cfgFlags ∧ t.pidx = s.pidx ∧ t.build = s.build ∧
    (¬ IsBuilderRow i → (∀ ign, i ≠ .build ign) →
      t.pmem = s.pmem ∧ t.pmemEpoch = s.pmemEpoch ∧ t.pulseCount = s.pulseCount ∧ t.total = s.total ∧
      t.waveValid = s.waveValid ∧ t.busy = s.busy ∧ t.st = s.st ∧ t.bi = s.bi ∧ t.bm = s.bm ∧
      t.rep = s.rep ∧ t.gr = s.gr ∧ t.txbuf = s.txbuf ∧ t.latch = s.latch)

/-! ### Whole builds -/

/-- A BUILD that finishes, whenever it does and whatever host accesses, held OP writes and turns come between the builder
steps, has the pulse count of 43_waveform.md R240, the ticks of R241 and a TOTAL that is the sum of the durations
(R244); it keeps them until the next build starts. The interleaving is the list of inputs (log 2). -/
def Obligations.FinishedBuildHasSpecPulsesAndTicks : Prop :=
  ∀ (ign : BitVec 24) (s t0 t : State) (k : Nat), PassesBuildChecks s → exec (.build ign) s = .next t0 →
    NoSecondBuild k t0 → core.run k t0 = .next t → t.waveValid = true →
    t.pulseCount.toNat = specPulses s ∧ t.total.toNat = specTicks s * s.cfgPeriod.toNat ∧
      t.total = durationSum t t.pulseCount.toNat

/-- A BUILD that finishes, whatever host accesses, held OP writes and turns come between the builder steps, holds the
run-length encoding of the tick sequence of 43_waveform.md R245 (the sequence itself R222 to R227, R248): spelled out in
ticks its pulses are that sequence with levels mapped to the masks of the configured pin, every duration is a positive
whole number of ticks, and neighbouring pulses differ. The interleaving is the list of inputs (log 2). -/
def Obligations.FinishedBuildMatchesTheTickSequence : Prop :=
  ∀ (ign : BitVec 24) (s t0 t : State) (k : Nat), PassesBuildChecks s → exec (.build ign) s = .next t0 →
    NoSecondBuild k t0 → core.run k t0 = .next t → t.waveValid = true →
    t.latch.pin = s.cfgPin ∧ t.latch.invert = s.cfgFlags[1] ∧
    pulseTicks s.cfgPeriod.toNat t = (tickSequence s).map (masks t.latch) ∧
    (∀ i, i < t.pulseCount.toNat →
      0 < (pmemRead t i).dur.toNat ∧ (pmemRead t i).dur.toNat % s.cfgPeriod.toNat = 0) ∧
    ∀ i, i + 1 < t.pulseCount.toNat →
      ((pmemRead t i).on, (pmemRead t i).off) ≠ ((pmemRead t (i + 1)).on, (pmemRead t (i + 1)).off)

/-- A BUILD within the capacity is busy for exactly the builder steps of 43_waveform.md R242 and then finishes, with
REP equal to N and no error (R228, R246). With no input to come (`ReadyToBuild`, log 2) the builder has every turn
(log 22), so machine steps count builder steps; host accesses between are `BuildEndsWhateverTheHostDoes`. -/
def Obligations.BuildWithinCapacityFinishesInSpecSteps : Prop :=
  ∀ (ign : BitVec 24) (s : State), ReadyToBuild s → specPulses s ≤ s.build.maxPulses.toNat →
    ∃ t0 t, exec (.build ign) s = .next t0 ∧ core.run (specSteps s) t0 = .next t ∧
      t.busy = false ∧ t.st = .idle ∧ t.waveValid = true ∧ t.lastErr = .noError ∧ t.errInfo = 0 ∧
      t.rep = s.cfgRepeats ∧
      ∀ k, k < specSteps s → ∃ u, core.run k t0 = .next u ∧ u.busy = true

/-- A BUILD beyond the capacity ends with CapacityExceeded and no pulse list, in one of the states that send an ON
segment (43_waveform.md R229, R246; which action fails is left open). With no input to come (`ReadyToBuild`, log 2)
the builder has every turn (log 22); host accesses between are `BuildEndsWhateverTheHostDoes`. -/
def Obligations.BuildBeyondCapacityAborts : Prop :=
  ∀ (ign : BitVec 24) (s : State), ReadyToBuild s → s.build.maxPulses.toNat < specPulses s →
    ∃ t0 t k c, exec (.build ign) s = .next t0 ∧ k ≤ specSteps s ∧ core.run k t0 = .next t ∧
      t.busy = false ∧ t.st = .idle ∧ t.waveValid = false ∧ t.pulseCount = 0 ∧ t.total = 0 ∧
      t.lastErr = .capacity ∧ t.sticky = s.sticky ||| 0b001000 ∧ 1 ≤ c ∧ c ≤ 4 ∧
      t.errInfo = BitVec.ofNat 32 (s.build.maxPulses.toNat + 0x1000000 * c)

/-- From every legal state with a build in progress BUSY returns to 0 within 255 * 349 builder steps, and an OP write
held until then is still held to take effect (43_waveform.md R242; 20_memory.md R64). The model's choices: with no input
left the builder has every turn (log 22), and the held write stands in `heldOp` (log 13). -/
def Obligations.BusyEndsWithinTheStepBound : Prop :=
  ∀ s : State, Legal s → s.busy = true → s.inputs = [] →
    ∃ k t, k ≤ 255 * 349 ∧ core.run k s = .next t ∧ t.busy = false ∧ t.heldOp = s.heldOp

/-- A BUILD ends whatever the host does short of a reset: every step either takes an input or is a builder step, so BUSY
stays 1 until, within the builder steps of 43_waveform.md R242 and one step more for each input, the build has finished
with REP equal to N, or, exactly when it is beyond the capacity, has aborted with CapacityExceeded (R228, R229, R246;
20_memory.md R64, R68, R72). The model's choices: the interleaving is the list of inputs (log 2), a held OP write
stands in `heldOp` (log 13), the builder has the turn when the inputs are used up or a write is held (log 22). -/
def Obligations.BuildEndsWhateverTheHostDoes : Prop :=
  ∀ (ign : BitVec 24) (s : State), PassesBuildChecks s → .reset ∉ s.inputs →
    ∃ t0 t k, exec (.build ign) s = .next t0 ∧ k ≤ specSteps s + s.inputs.length ∧ core.run k t0 = .next t ∧
      (∀ j, j < k → ∃ u, core.run j t0 = .next u ∧ u.busy = true) ∧ t.busy = false ∧ t.st = .idle ∧
      (specPulses s ≤ s.build.maxPulses.toNat →
        t.waveValid = true ∧ t.lastErr = .noError ∧ t.errInfo = 0 ∧ t.sticky = s.sticky ∧ t.rep = s.cfgRepeats) ∧
      (s.build.maxPulses.toNat < specPulses s →
        t.waveValid = false ∧ t.pulseCount = 0 ∧ t.total = 0 ∧ t.lastErr = .capacity ∧
          t.sticky = s.sticky ||| 0b001000)
end

