-- ==== Sys2Proof/Laws/Pmem.lean ====
section
/-! SUPPORT. The laws of the pulse memory: a read after a write, and the canonical form. -/

namespace Sys2Proof.Machine

@[simp] theorem pmemLookup_write_same (m : PulseMem) (i : Nat) (p : Pulse) :
    pmemLookup (pmemWrite m i p) i = some p := by
  induction m with
  | nil => simp [pmemWrite, pmemLookup]
  | cons e rest ih =>
    obtain ⟨j, q⟩ := e
    unfold pmemWrite
    split
    · simp [pmemLookup]
    · split
      · simp [pmemLookup]
      · rename_i h
        have hji : j ≠ i := fun e => h e.symm
        simp [pmemLookup, hji, ih]

theorem pmemLookup_write_other (m : PulseMem) (i k : Nat) (p : Pulse) (h : k ≠ i) :
    pmemLookup (pmemWrite m i p) k = pmemLookup m k := by
  induction m with
  | nil => simp [pmemWrite, pmemLookup, h.symm]
  | cons e rest ih =>
    obtain ⟨j, q⟩ := e
    unfold pmemWrite
    split
    · simp [pmemLookup, h.symm]
    · split
      · rename_i e
        simp [pmemLookup, h.symm, ← e]
      · simp [pmemLookup, ih]

theorem pmemWfFrom_mono (lo lo' bound : Nat) (m : PulseMem) (h : lo' ≤ lo)
    (hw : pmemWfFrom lo bound m = true) : pmemWfFrom lo' bound m = true := by
  cases m with
  | nil => rfl
  | cons e rest =>
    simp only [pmemWfFrom, Bool.and_eq_true, decide_eq_true_eq] at hw ⊢
    exact ⟨⟨by omega, hw.1.2⟩, hw.2⟩

theorem pmemWrite_wfFrom (lo bound i : Nat) (p : Pulse) (m : PulseMem) (hlo : lo ≤ i) (hi : i < bound)
    (hw : pmemWfFrom lo bound m = true) : pmemWfFrom lo bound (pmemWrite m i p) = true := by
  induction m generalizing lo with
  | nil => simp [pmemWrite, pmemWfFrom, hlo, hi]
  | cons e rest ih =>
    obtain ⟨j, q⟩ := e
    simp only [pmemWfFrom, Bool.and_eq_true, decide_eq_true_eq] at hw
    unfold pmemWrite
    split
    · simp only [pmemWfFrom, Bool.and_eq_true, decide_eq_true_eq]
      exact ⟨⟨hlo, hi⟩, ⟨by omega, hw.1.2⟩, hw.2⟩
    · split
      · rename_i e
        subst e
        simp only [pmemWfFrom, Bool.and_eq_true, decide_eq_true_eq]
        exact ⟨⟨hlo, hi⟩, hw.2⟩
      · simp only [pmemWfFrom, Bool.and_eq_true, decide_eq_true_eq]
        exact ⟨hw.1, ih (j + 1) (by omega) hw.2⟩

/-- The one memory operation keeps the canonical form. -/
theorem pmemWrite_wf (bound i : Nat) (p : Pulse) (m : PulseMem) (hi : i < bound) (hw : pmemWf bound m = true) :
    pmemWf bound (pmemWrite m i p) = true :=
  pmemWrite_wfFrom 0 bound i p m (Nat.zero_le _) hi hw

@[simp] theorem pmemWf_nil (bound : Nat) : pmemWf bound [] = true := rfl

/-- The reset state's memory has the canonical form, whatever the build. -/
theorem resetOf_pmemCanonical (b : BuildParams) : PmemCanonical (State.resetOf b) := rfl

/-- An entry just written reads as written. -/
theorem pmemRead_write_same (s : State) (i : Nat) (p : Pulse) :
    pmemRead { s with pmem := pmemWrite s.pmem i p } i = p := by
  simp [pmemRead]

/-- Every other entry reads as before. -/
theorem pmemRead_write_other (s : State) (i k : Nat) (p : Pulse) (h : k ≠ i) :
    pmemRead { s with pmem := pmemWrite s.pmem i p } k = pmemRead s k := by
  simp [pmemRead, pmemLookup_write_other _ _ _ _ h]

/-- A read depends on the memory and the epoch alone. -/
theorem pmemRead_congr (s t : State) (i : Nat) (hm : s.pmem = t.pmem) (he : s.pmemEpoch = t.pmemEpoch) :
    pmemRead s i = pmemRead t i := by
  simp [pmemRead, hm, he]

end Sys2Proof.Machine
end

