-- ==== Sys2Proof/Laws/State.lean ====
section
/-! SUPPORT. One lemma for each field of State and each named update: what the field is after it. -/

namespace Sys2Proof.Machine

@[simp] theorem raise_buf (e : ErrCode) (a b : Byte) (sub : BitVec 4) (t : BuilderState) (s : State) : (raise e a b sub t s).buf = s.buf := rfl
@[simp] theorem raise_bufValid (e : ErrCode) (a b : Byte) (sub : BitVec 4) (t : BuilderState) (s : State) : (raise e a b sub t s).bufValid = s.bufValid := rfl
@[simp] theorem raise_stage (e : ErrCode) (a b : Byte) (sub : BitVec 4) (t : BuilderState) (s : State) : (raise e a b sub t s).stage = s.stage := rfl
@[simp] theorem raise_stageLen (e : ErrCode) (a b : Byte) (sub : BitVec 4) (t : BuilderState) (s : State) : (raise e a b sub t s).stageLen = s.stageLen := rfl
@[simp] theorem raise_cmdKind (e : ErrCode) (a b : Byte) (sub : BitVec 4) (t : BuilderState) (s : State) : (raise e a b sub t s).cmdKind = s.cmdKind := rfl
@[simp] theorem raise_cmdValue (e : ErrCode) (a b : Byte) (sub : BitVec 4) (t : BuilderState) (s : State) : (raise e a b sub t s).cmdValue = s.cmdValue := rfl
@[simp] theorem raise_cmdDevice (e : ErrCode) (a b : Byte) (sub : BitVec 4) (t : BuilderState) (s : State) : (raise e a b sub t s).cmdDevice = s.cmdDevice := rfl
@[simp] theorem raise_cmdAddr (e : ErrCode) (a b : Byte) (sub : BitVec 4) (t : BuilderState) (s : State) : (raise e a b sub t s).cmdAddr = s.cmdAddr := rfl
@[simp] theorem raise_cmdRoom (e : ErrCode) (a b : Byte) (sub : BitVec 4) (t : BuilderState) (s : State) : (raise e a b sub t s).cmdRoom = s.cmdRoom := rfl
@[simp] theorem raise_decKind (e : ErrCode) (a b : Byte) (sub : BitVec 4) (t : BuilderState) (s : State) : (raise e a b sub t s).decKind = s.decKind := rfl
@[simp] theorem raise_decValue (e : ErrCode) (a b : Byte) (sub : BitVec 4) (t : BuilderState) (s : State) : (raise e a b sub t s).decValue = s.decValue := rfl
@[simp] theorem raise_decDevice (e : ErrCode) (a b : Byte) (sub : BitVec 4) (t : BuilderState) (s : State) : (raise e a b sub t s).decDevice = s.decDevice := rfl
@[simp] theorem raise_decAddr (e : ErrCode) (a b : Byte) (sub : BitVec 4) (t : BuilderState) (s : State) : (raise e a b sub t s).decAddr = s.decAddr := rfl
@[simp] theorem raise_decRoom (e : ErrCode) (a b : Byte) (sub : BitVec 4) (t : BuilderState) (s : State) : (raise e a b sub t s).decRoom = s.decRoom := rfl
@[simp] theorem raise_decClass (e : ErrCode) (a b : Byte) (sub : BitVec 4) (t : BuilderState) (s : State) : (raise e a b sub t s).decClass = s.decClass := rfl
@[simp] theorem raise_decParam (e : ErrCode) (a b : Byte) (sub : BitVec 4) (t : BuilderState) (s : State) : (raise e a b sub t s).decParam = s.decParam := rfl
@[simp] theorem raise_decValid (e : ErrCode) (a b : Byte) (sub : BitVec 4) (t : BuilderState) (s : State) : (raise e a b sub t s).decValid = s.decValid := rfl
@[simp] theorem raise_cfgPin (e : ErrCode) (a b : Byte) (sub : BitVec 4) (t : BuilderState) (s : State) : (raise e a b sub t s).cfgPin = s.cfgPin := rfl
@[simp] theorem raise_cfgPeriod (e : ErrCode) (a b : Byte) (sub : BitVec 4) (t : BuilderState) (s : State) : (raise e a b sub t s).cfgPeriod = s.cfgPeriod := rfl
@[simp] theorem raise_cfgRepeats (e : ErrCode) (a b : Byte) (sub : BitVec 4) (t : BuilderState) (s : State) : (raise e a b sub t s).cfgRepeats = s.cfgRepeats := rfl
@[simp] theorem raise_cfgGapMult (e : ErrCode) (a b : Byte) (sub : BitVec 4) (t : BuilderState) (s : State) : (raise e a b sub t s).cfgGapMult = s.cfgGapMult := rfl
@[simp] theorem raise_cfgFlags (e : ErrCode) (a b : Byte) (sub : BitVec 4) (t : BuilderState) (s : State) : (raise e a b sub t s).cfgFlags = s.cfgFlags := rfl
@[simp] theorem raise_pmem (e : ErrCode) (a b : Byte) (sub : BitVec 4) (t : BuilderState) (s : State) : (raise e a b sub t s).pmem = s.pmem := rfl
@[simp] theorem raise_pulseCount (e : ErrCode) (a b : Byte) (sub : BitVec 4) (t : BuilderState) (s : State) : (raise e a b sub t s).pulseCount = s.pulseCount := rfl
@[simp] theorem raise_total (e : ErrCode) (a b : Byte) (sub : BitVec 4) (t : BuilderState) (s : State) : (raise e a b sub t s).total = s.total := rfl
@[simp] theorem raise_waveValid (e : ErrCode) (a b : Byte) (sub : BitVec 4) (t : BuilderState) (s : State) : (raise e a b sub t s).waveValid = s.waveValid := rfl
@[simp] theorem raise_pidx (e : ErrCode) (a b : Byte) (sub : BitVec 4) (t : BuilderState) (s : State) : (raise e a b sub t s).pidx = s.pidx := rfl
@[simp] theorem raise_busy (e : ErrCode) (a b : Byte) (sub : BitVec 4) (t : BuilderState) (s : State) : (raise e a b sub t s).busy = s.busy := rfl
@[simp] theorem raise_lastErr (e : ErrCode) (a b : Byte) (sub : BitVec 4) (t : BuilderState) (s : State) : (raise e a b sub t s).lastErr = e := rfl
@[simp] theorem raise_sticky (e : ErrCode) (a b : Byte) (sub : BitVec 4) (t : BuilderState) (s : State) : (raise e a b sub t s).sticky = s.sticky ||| stickyBit e := rfl
@[simp] theorem raise_errInfo (e : ErrCode) (a b : Byte) (sub : BitVec 4) (t : BuilderState) (s : State) : (raise e a b sub t s).errInfo = errWord a b sub t := rfl
@[simp] theorem raise_st (e : ErrCode) (a b : Byte) (sub : BitVec 4) (t : BuilderState) (s : State) : (raise e a b sub t s).st = s.st := rfl
@[simp] theorem raise_bi (e : ErrCode) (a b : Byte) (sub : BitVec 4) (t : BuilderState) (s : State) : (raise e a b sub t s).bi = s.bi := rfl
@[simp] theorem raise_bm (e : ErrCode) (a b : Byte) (sub : BitVec 4) (t : BuilderState) (s : State) : (raise e a b sub t s).bm = s.bm := rfl
@[simp] theorem raise_rep (e : ErrCode) (a b : Byte) (sub : BitVec 4) (t : BuilderState) (s : State) : (raise e a b sub t s).rep = s.rep := rfl
@[simp] theorem raise_gr (e : ErrCode) (a b : Byte) (sub : BitVec 4) (t : BuilderState) (s : State) : (raise e a b sub t s).gr = s.gr := rfl
@[simp] theorem raise_txbuf (e : ErrCode) (a b : Byte) (sub : BitVec 4) (t : BuilderState) (s : State) : (raise e a b sub t s).txbuf = s.txbuf := rfl
@[simp] theorem raise_latch (e : ErrCode) (a b : Byte) (sub : BitVec 4) (t : BuilderState) (s : State) : (raise e a b sub t s).latch = s.latch := rfl
@[simp] theorem raise_build (e : ErrCode) (a b : Byte) (sub : BitVec 4) (t : BuilderState) (s : State) : (raise e a b sub t s).build = s.build := rfl
@[simp] theorem raise_heldOp (e : ErrCode) (a b : Byte) (sub : BitVec 4) (t : BuilderState) (s : State) : (raise e a b sub t s).heldOp = s.heldOp := rfl
@[simp] theorem raise_inputs (e : ErrCode) (a b : Byte) (sub : BitVec 4) (t : BuilderState) (s : State) : (raise e a b sub t s).inputs = s.inputs := rfl
@[simp] theorem raise_replies (e : ErrCode) (a b : Byte) (sub : BitVec 4) (t : BuilderState) (s : State) : (raise e a b sub t s).replies = s.replies := rfl
@[simp] theorem raise_freeCount (e : ErrCode) (a b : Byte) (sub : BitVec 4) (t : BuilderState) (s : State) : (raise e a b sub t s).freeCount = s.freeCount := rfl
@[simp] theorem raise_pmemEpoch (e : ErrCode) (a b : Byte) (sub : BitVec 4) (t : BuilderState) (s : State) : (raise e a b sub t s).pmemEpoch = s.pmemEpoch := rfl

@[simp] theorem succeed_buf (s : State) : (succeed s).buf = s.buf := rfl
@[simp] theorem succeed_bufValid (s : State) : (succeed s).bufValid = s.bufValid := rfl
@[simp] theorem succeed_stage (s : State) : (succeed s).stage = s.stage := rfl
@[simp] theorem succeed_stageLen (s : State) : (succeed s).stageLen = s.stageLen := rfl
@[simp] theorem succeed_cmdKind (s : State) : (succeed s).cmdKind = s.cmdKind := rfl
@[simp] theorem succeed_cmdValue (s : State) : (succeed s).cmdValue = s.cmdValue := rfl
@[simp] theorem succeed_cmdDevice (s : State) : (succeed s).cmdDevice = s.cmdDevice := rfl
@[simp] theorem succeed_cmdAddr (s : State) : (succeed s).cmdAddr = s.cmdAddr := rfl
@[simp] theorem succeed_cmdRoom (s : State) : (succeed s).cmdRoom = s.cmdRoom := rfl
@[simp] theorem succeed_decKind (s : State) : (succeed s).decKind = s.decKind := rfl
@[simp] theorem succeed_decValue (s : State) : (succeed s).decValue = s.decValue := rfl
@[simp] theorem succeed_decDevice (s : State) : (succeed s).decDevice = s.decDevice := rfl
@[simp] theorem succeed_decAddr (s : State) : (succeed s).decAddr = s.decAddr := rfl
@[simp] theorem succeed_decRoom (s : State) : (succeed s).decRoom = s.decRoom := rfl
@[simp] theorem succeed_decClass (s : State) : (succeed s).decClass = s.decClass := rfl
@[simp] theorem succeed_decParam (s : State) : (succeed s).decParam = s.decParam := rfl
@[simp] theorem succeed_decValid (s : State) : (succeed s).decValid = s.decValid := rfl
@[simp] theorem succeed_cfgPin (s : State) : (succeed s).cfgPin = s.cfgPin := rfl
@[simp] theorem succeed_cfgPeriod (s : State) : (succeed s).cfgPeriod = s.cfgPeriod := rfl
@[simp] theorem succeed_cfgRepeats (s : State) : (succeed s).cfgRepeats = s.cfgRepeats := rfl
@[simp] theorem succeed_cfgGapMult (s : State) : (succeed s).cfgGapMult = s.cfgGapMult := rfl
@[simp] theorem succeed_cfgFlags (s : State) : (succeed s).cfgFlags = s.cfgFlags := rfl
@[simp] theorem succeed_pmem (s : State) : (succeed s).pmem = s.pmem := rfl
@[simp] theorem succeed_pulseCount (s : State) : (succeed s).pulseCount = s.pulseCount := rfl
@[simp] theorem succeed_total (s : State) : (succeed s).total = s.total := rfl
@[simp] theorem succeed_waveValid (s : State) : (succeed s).waveValid = s.waveValid := rfl
@[simp] theorem succeed_pidx (s : State) : (succeed s).pidx = s.pidx := rfl
@[simp] theorem succeed_busy (s : State) : (succeed s).busy = s.busy := rfl
@[simp] theorem succeed_lastErr (s : State) : (succeed s).lastErr = .noError := rfl
@[simp] theorem succeed_sticky (s : State) : (succeed s).sticky = s.sticky := rfl
@[simp] theorem succeed_errInfo (s : State) : (succeed s).errInfo = 0 := rfl
@[simp] theorem succeed_st (s : State) : (succeed s).st = s.st := rfl
@[simp] theorem succeed_bi (s : State) : (succeed s).bi = s.bi := rfl
@[simp] theorem succeed_bm (s : State) : (succeed s).bm = s.bm := rfl
@[simp] theorem succeed_rep (s : State) : (succeed s).rep = s.rep := rfl
@[simp] theorem succeed_gr (s : State) : (succeed s).gr = s.gr := rfl
@[simp] theorem succeed_txbuf (s : State) : (succeed s).txbuf = s.txbuf := rfl
@[simp] theorem succeed_latch (s : State) : (succeed s).latch = s.latch := rfl
@[simp] theorem succeed_build (s : State) : (succeed s).build = s.build := rfl
@[simp] theorem succeed_heldOp (s : State) : (succeed s).heldOp = s.heldOp := rfl
@[simp] theorem succeed_inputs (s : State) : (succeed s).inputs = s.inputs := rfl
@[simp] theorem succeed_replies (s : State) : (succeed s).replies = s.replies := rfl
@[simp] theorem succeed_freeCount (s : State) : (succeed s).freeCount = s.freeCount := rfl
@[simp] theorem succeed_pmemEpoch (s : State) : (succeed s).pmemEpoch = s.pmemEpoch := rfl

@[simp] theorem clearWave_buf (s : State) : (clearWave s).buf = s.buf := rfl
@[simp] theorem clearWave_bufValid (s : State) : (clearWave s).bufValid = s.bufValid := rfl
@[simp] theorem clearWave_stage (s : State) : (clearWave s).stage = s.stage := rfl
@[simp] theorem clearWave_stageLen (s : State) : (clearWave s).stageLen = s.stageLen := rfl
@[simp] theorem clearWave_cmdKind (s : State) : (clearWave s).cmdKind = s.cmdKind := rfl
@[simp] theorem clearWave_cmdValue (s : State) : (clearWave s).cmdValue = s.cmdValue := rfl
@[simp] theorem clearWave_cmdDevice (s : State) : (clearWave s).cmdDevice = s.cmdDevice := rfl
@[simp] theorem clearWave_cmdAddr (s : State) : (clearWave s).cmdAddr = s.cmdAddr := rfl
@[simp] theorem clearWave_cmdRoom (s : State) : (clearWave s).cmdRoom = s.cmdRoom := rfl
@[simp] theorem clearWave_decKind (s : State) : (clearWave s).decKind = s.decKind := rfl
@[simp] theorem clearWave_decValue (s : State) : (clearWave s).decValue = s.decValue := rfl
@[simp] theorem clearWave_decDevice (s : State) : (clearWave s).decDevice = s.decDevice := rfl
@[simp] theorem clearWave_decAddr (s : State) : (clearWave s).decAddr = s.decAddr := rfl
@[simp] theorem clearWave_decRoom (s : State) : (clearWave s).decRoom = s.decRoom := rfl
@[simp] theorem clearWave_decClass (s : State) : (clearWave s).decClass = s.decClass := rfl
@[simp] theorem clearWave_decParam (s : State) : (clearWave s).decParam = s.decParam := rfl
@[simp] theorem clearWave_decValid (s : State) : (clearWave s).decValid = s.decValid := rfl
@[simp] theorem clearWave_cfgPin (s : State) : (clearWave s).cfgPin = s.cfgPin := rfl
@[simp] theorem clearWave_cfgPeriod (s : State) : (clearWave s).cfgPeriod = s.cfgPeriod := rfl
@[simp] theorem clearWave_cfgRepeats (s : State) : (clearWave s).cfgRepeats = s.cfgRepeats := rfl
@[simp] theorem clearWave_cfgGapMult (s : State) : (clearWave s).cfgGapMult = s.cfgGapMult := rfl
@[simp] theorem clearWave_cfgFlags (s : State) : (clearWave s).cfgFlags = s.cfgFlags := rfl
@[simp] theorem clearWave_pmem (s : State) : (clearWave s).pmem = s.pmem := rfl
@[simp] theorem clearWave_pulseCount (s : State) : (clearWave s).pulseCount = 0 := rfl
@[simp] theorem clearWave_total (s : State) : (clearWave s).total = 0 := rfl
@[simp] theorem clearWave_waveValid (s : State) : (clearWave s).waveValid = false := rfl
@[simp] theorem clearWave_pidx (s : State) : (clearWave s).pidx = s.pidx := rfl
@[simp] theorem clearWave_busy (s : State) : (clearWave s).busy = s.busy := rfl
@[simp] theorem clearWave_lastErr (s : State) : (clearWave s).lastErr = s.lastErr := rfl
@[simp] theorem clearWave_sticky (s : State) : (clearWave s).sticky = s.sticky := rfl
@[simp] theorem clearWave_errInfo (s : State) : (clearWave s).errInfo = s.errInfo := rfl
@[simp] theorem clearWave_st (s : State) : (clearWave s).st = s.st := rfl
@[simp] theorem clearWave_bi (s : State) : (clearWave s).bi = s.bi := rfl
@[simp] theorem clearWave_bm (s : State) : (clearWave s).bm = s.bm := rfl
@[simp] theorem clearWave_rep (s : State) : (clearWave s).rep = s.rep := rfl
@[simp] theorem clearWave_gr (s : State) : (clearWave s).gr = s.gr := rfl
@[simp] theorem clearWave_txbuf (s : State) : (clearWave s).txbuf = s.txbuf := rfl
@[simp] theorem clearWave_latch (s : State) : (clearWave s).latch = s.latch := rfl
@[simp] theorem clearWave_build (s : State) : (clearWave s).build = s.build := rfl
@[simp] theorem clearWave_heldOp (s : State) : (clearWave s).heldOp = s.heldOp := rfl
@[simp] theorem clearWave_inputs (s : State) : (clearWave s).inputs = s.inputs := rfl
@[simp] theorem clearWave_replies (s : State) : (clearWave s).replies = s.replies := rfl
@[simp] theorem clearWave_freeCount (s : State) : (clearWave s).freeCount = s.freeCount := rfl
@[simp] theorem clearWave_pmemEpoch (s : State) : (clearWave s).pmemEpoch = s.pmemEpoch := rfl

@[simp] theorem startBuild_buf (s : State) : (startBuild s).buf = s.buf := rfl
@[simp] theorem startBuild_bufValid (s : State) : (startBuild s).bufValid = s.bufValid := rfl
@[simp] theorem startBuild_stage (s : State) : (startBuild s).stage = s.stage := rfl
@[simp] theorem startBuild_stageLen (s : State) : (startBuild s).stageLen = s.stageLen := rfl
@[simp] theorem startBuild_cmdKind (s : State) : (startBuild s).cmdKind = s.cmdKind := rfl
@[simp] theorem startBuild_cmdValue (s : State) : (startBuild s).cmdValue = s.cmdValue := rfl
@[simp] theorem startBuild_cmdDevice (s : State) : (startBuild s).cmdDevice = s.cmdDevice := rfl
@[simp] theorem startBuild_cmdAddr (s : State) : (startBuild s).cmdAddr = s.cmdAddr := rfl
@[simp] theorem startBuild_cmdRoom (s : State) : (startBuild s).cmdRoom = s.cmdRoom := rfl
@[simp] theorem startBuild_decKind (s : State) : (startBuild s).decKind = s.decKind := rfl
@[simp] theorem startBuild_decValue (s : State) : (startBuild s).decValue = s.decValue := rfl
@[simp] theorem startBuild_decDevice (s : State) : (startBuild s).decDevice = s.decDevice := rfl
@[simp] theorem startBuild_decAddr (s : State) : (startBuild s).decAddr = s.decAddr := rfl
@[simp] theorem startBuild_decRoom (s : State) : (startBuild s).decRoom = s.decRoom := rfl
@[simp] theorem startBuild_decClass (s : State) : (startBuild s).decClass = s.decClass := rfl
@[simp] theorem startBuild_decParam (s : State) : (startBuild s).decParam = s.decParam := rfl
@[simp] theorem startBuild_decValid (s : State) : (startBuild s).decValid = s.decValid := rfl
@[simp] theorem startBuild_cfgPin (s : State) : (startBuild s).cfgPin = s.cfgPin := rfl
@[simp] theorem startBuild_cfgPeriod (s : State) : (startBuild s).cfgPeriod = s.cfgPeriod := rfl
@[simp] theorem startBuild_cfgRepeats (s : State) : (startBuild s).cfgRepeats = s.cfgRepeats := rfl
@[simp] theorem startBuild_cfgGapMult (s : State) : (startBuild s).cfgGapMult = s.cfgGapMult := rfl
@[simp] theorem startBuild_cfgFlags (s : State) : (startBuild s).cfgFlags = s.cfgFlags := rfl
@[simp] theorem startBuild_pmem (s : State) : (startBuild s).pmem = s.pmem := rfl
@[simp] theorem startBuild_pulseCount (s : State) : (startBuild s).pulseCount = s.pulseCount := rfl
@[simp] theorem startBuild_total (s : State) : (startBuild s).total = s.total := rfl
@[simp] theorem startBuild_waveValid (s : State) : (startBuild s).waveValid = s.waveValid := rfl
@[simp] theorem startBuild_pidx (s : State) : (startBuild s).pidx = s.pidx := rfl
@[simp] theorem startBuild_busy (s : State) : (startBuild s).busy = true := rfl
@[simp] theorem startBuild_lastErr (s : State) : (startBuild s).lastErr = .noError := rfl
@[simp] theorem startBuild_sticky (s : State) : (startBuild s).sticky = s.sticky := rfl
@[simp] theorem startBuild_errInfo (s : State) : (startBuild s).errInfo = 0 := rfl
@[simp] theorem startBuild_st (s : State) : (startBuild s).st = .messageStart := rfl
@[simp] theorem startBuild_bi (s : State) : (startBuild s).bi = 0 := rfl
@[simp] theorem startBuild_bm (s : State) : (startBuild s).bm = 0 := rfl
@[simp] theorem startBuild_rep (s : State) : (startBuild s).rep = 0 := rfl
@[simp] theorem startBuild_gr (s : State) : (startBuild s).gr = 0 := rfl
@[simp] theorem startBuild_txbuf (s : State) : (startBuild s).txbuf = (if translateFlag s.cfgFlags then mapBytes xlate s.buf else s.buf) := rfl
@[simp] theorem startBuild_latch (s : State) : (startBuild s).latch = ⟨s.cfgPin, s.cfgPeriod, s.cfgRepeats, s.cfgGapMult, invertFlag s.cfgFlags, trailingGapFlag s.cfgFlags⟩ := rfl
@[simp] theorem startBuild_build (s : State) : (startBuild s).build = s.build := rfl
@[simp] theorem startBuild_heldOp (s : State) : (startBuild s).heldOp = s.heldOp := rfl
@[simp] theorem startBuild_inputs (s : State) : (startBuild s).inputs = s.inputs := rfl
@[simp] theorem startBuild_replies (s : State) : (startBuild s).replies = s.replies := rfl
@[simp] theorem startBuild_freeCount (s : State) : (startBuild s).freeCount = s.freeCount := rfl
@[simp] theorem startBuild_pmemEpoch (s : State) : (startBuild s).pmemEpoch = s.pmemEpoch := rfl

@[simp] theorem finish_buf (s : State) : (finish s).buf = s.buf := rfl
@[simp] theorem finish_bufValid (s : State) : (finish s).bufValid = s.bufValid := rfl
@[simp] theorem finish_stage (s : State) : (finish s).stage = s.stage := rfl
@[simp] theorem finish_stageLen (s : State) : (finish s).stageLen = s.stageLen := rfl
@[simp] theorem finish_cmdKind (s : State) : (finish s).cmdKind = s.cmdKind := rfl
@[simp] theorem finish_cmdValue (s : State) : (finish s).cmdValue = s.cmdValue := rfl
@[simp] theorem finish_cmdDevice (s : State) : (finish s).cmdDevice = s.cmdDevice := rfl
@[simp] theorem finish_cmdAddr (s : State) : (finish s).cmdAddr = s.cmdAddr := rfl
@[simp] theorem finish_cmdRoom (s : State) : (finish s).cmdRoom = s.cmdRoom := rfl
@[simp] theorem finish_decKind (s : State) : (finish s).decKind = s.decKind := rfl
@[simp] theorem finish_decValue (s : State) : (finish s).decValue = s.decValue := rfl
@[simp] theorem finish_decDevice (s : State) : (finish s).decDevice = s.decDevice := rfl
@[simp] theorem finish_decAddr (s : State) : (finish s).decAddr = s.decAddr := rfl
@[simp] theorem finish_decRoom (s : State) : (finish s).decRoom = s.decRoom := rfl
@[simp] theorem finish_decClass (s : State) : (finish s).decClass = s.decClass := rfl
@[simp] theorem finish_decParam (s : State) : (finish s).decParam = s.decParam := rfl
@[simp] theorem finish_decValid (s : State) : (finish s).decValid = s.decValid := rfl
@[simp] theorem finish_cfgPin (s : State) : (finish s).cfgPin = s.cfgPin := rfl
@[simp] theorem finish_cfgPeriod (s : State) : (finish s).cfgPeriod = s.cfgPeriod := rfl
@[simp] theorem finish_cfgRepeats (s : State) : (finish s).cfgRepeats = s.cfgRepeats := rfl
@[simp] theorem finish_cfgGapMult (s : State) : (finish s).cfgGapMult = s.cfgGapMult := rfl
@[simp] theorem finish_cfgFlags (s : State) : (finish s).cfgFlags = s.cfgFlags := rfl
@[simp] theorem finish_pmem (s : State) : (finish s).pmem = s.pmem := rfl
@[simp] theorem finish_pulseCount (s : State) : (finish s).pulseCount = s.pulseCount := rfl
@[simp] theorem finish_total (s : State) : (finish s).total = s.total := rfl
@[simp] theorem finish_waveValid (s : State) : (finish s).waveValid = true := rfl
@[simp] theorem finish_pidx (s : State) : (finish s).pidx = s.pidx := rfl
@[simp] theorem finish_busy (s : State) : (finish s).busy = false := rfl
@[simp] theorem finish_lastErr (s : State) : (finish s).lastErr = s.lastErr := rfl
@[simp] theorem finish_sticky (s : State) : (finish s).sticky = s.sticky := rfl
@[simp] theorem finish_errInfo (s : State) : (finish s).errInfo = s.errInfo := rfl
@[simp] theorem finish_st (s : State) : (finish s).st = .idle := rfl
@[simp] theorem finish_bi (s : State) : (finish s).bi = s.bi := rfl
@[simp] theorem finish_bm (s : State) : (finish s).bm = s.bm := rfl
@[simp] theorem finish_rep (s : State) : (finish s).rep = s.rep := rfl
@[simp] theorem finish_gr (s : State) : (finish s).gr = s.gr := rfl
@[simp] theorem finish_txbuf (s : State) : (finish s).txbuf = s.txbuf := rfl
@[simp] theorem finish_latch (s : State) : (finish s).latch = s.latch := rfl
@[simp] theorem finish_build (s : State) : (finish s).build = s.build := rfl
@[simp] theorem finish_heldOp (s : State) : (finish s).heldOp = s.heldOp := rfl
@[simp] theorem finish_inputs (s : State) : (finish s).inputs = s.inputs := rfl
@[simp] theorem finish_replies (s : State) : (finish s).replies = s.replies := rfl
@[simp] theorem finish_freeCount (s : State) : (finish s).freeCount = s.freeCount := rfl
@[simp] theorem finish_pmemEpoch (s : State) : (finish s).pmemEpoch = s.pmemEpoch := rfl

@[simp] theorem decodeCopy_buf (cls param : Byte) (s : State) : (decodeCopy cls param s).buf = s.buf := rfl
@[simp] theorem decodeCopy_bufValid (cls param : Byte) (s : State) : (decodeCopy cls param s).bufValid = s.bufValid := rfl
@[simp] theorem decodeCopy_stage (cls param : Byte) (s : State) : (decodeCopy cls param s).stage = s.stage := rfl
@[simp] theorem decodeCopy_stageLen (cls param : Byte) (s : State) : (decodeCopy cls param s).stageLen = s.stageLen := rfl
@[simp] theorem decodeCopy_cmdKind (cls param : Byte) (s : State) : (decodeCopy cls param s).cmdKind = s.cmdKind := rfl
@[simp] theorem decodeCopy_cmdValue (cls param : Byte) (s : State) : (decodeCopy cls param s).cmdValue = s.cmdValue := rfl
@[simp] theorem decodeCopy_cmdDevice (cls param : Byte) (s : State) : (decodeCopy cls param s).cmdDevice = s.cmdDevice := rfl
@[simp] theorem decodeCopy_cmdAddr (cls param : Byte) (s : State) : (decodeCopy cls param s).cmdAddr = s.cmdAddr := rfl
@[simp] theorem decodeCopy_cmdRoom (cls param : Byte) (s : State) : (decodeCopy cls param s).cmdRoom = s.cmdRoom := rfl
@[simp] theorem decodeCopy_decKind (cls param : Byte) (s : State) : (decodeCopy cls param s).decKind = s.decKind := rfl
@[simp] theorem decodeCopy_decValue (cls param : Byte) (s : State) : (decodeCopy cls param s).decValue = s.decValue := rfl
@[simp] theorem decodeCopy_decDevice (cls param : Byte) (s : State) : (decodeCopy cls param s).decDevice = s.buf.b2 := rfl
@[simp] theorem decodeCopy_decAddr (cls param : Byte) (s : State) : (decodeCopy cls param s).decAddr = addrOf s.buf := rfl
@[simp] theorem decodeCopy_decRoom (cls param : Byte) (s : State) : (decodeCopy cls param s).decRoom = s.buf.b9 := rfl
@[simp] theorem decodeCopy_decClass (cls param : Byte) (s : State) : (decodeCopy cls param s).decClass = cls := rfl
@[simp] theorem decodeCopy_decParam (cls param : Byte) (s : State) : (decodeCopy cls param s).decParam = param := rfl
@[simp] theorem decodeCopy_decValid (cls param : Byte) (s : State) : (decodeCopy cls param s).decValid = s.decValid := rfl
@[simp] theorem decodeCopy_cfgPin (cls param : Byte) (s : State) : (decodeCopy cls param s).cfgPin = s.cfgPin := rfl
@[simp] theorem decodeCopy_cfgPeriod (cls param : Byte) (s : State) : (decodeCopy cls param s).cfgPeriod = s.cfgPeriod := rfl
@[simp] theorem decodeCopy_cfgRepeats (cls param : Byte) (s : State) : (decodeCopy cls param s).cfgRepeats = s.cfgRepeats := rfl
@[simp] theorem decodeCopy_cfgGapMult (cls param : Byte) (s : State) : (decodeCopy cls param s).cfgGapMult = s.cfgGapMult := rfl
@[simp] theorem decodeCopy_cfgFlags (cls param : Byte) (s : State) : (decodeCopy cls param s).cfgFlags = s.cfgFlags := rfl
@[simp] theorem decodeCopy_pmem (cls param : Byte) (s : State) : (decodeCopy cls param s).pmem = s.pmem := rfl
@[simp] theorem decodeCopy_pulseCount (cls param : Byte) (s : State) : (decodeCopy cls param s).pulseCount = s.pulseCount := rfl
@[simp] theorem decodeCopy_total (cls param : Byte) (s : State) : (decodeCopy cls param s).total = s.total := rfl
@[simp] theorem decodeCopy_waveValid (cls param : Byte) (s : State) : (decodeCopy cls param s).waveValid = s.waveValid := rfl
@[simp] theorem decodeCopy_pidx (cls param : Byte) (s : State) : (decodeCopy cls param s).pidx = s.pidx := rfl
@[simp] theorem decodeCopy_busy (cls param : Byte) (s : State) : (decodeCopy cls param s).busy = s.busy := rfl
@[simp] theorem decodeCopy_lastErr (cls param : Byte) (s : State) : (decodeCopy cls param s).lastErr = s.lastErr := rfl
@[simp] theorem decodeCopy_sticky (cls param : Byte) (s : State) : (decodeCopy cls param s).sticky = s.sticky := rfl
@[simp] theorem decodeCopy_errInfo (cls param : Byte) (s : State) : (decodeCopy cls param s).errInfo = s.errInfo := rfl
@[simp] theorem decodeCopy_st (cls param : Byte) (s : State) : (decodeCopy cls param s).st = s.st := rfl
@[simp] theorem decodeCopy_bi (cls param : Byte) (s : State) : (decodeCopy cls param s).bi = s.bi := rfl
@[simp] theorem decodeCopy_bm (cls param : Byte) (s : State) : (decodeCopy cls param s).bm = s.bm := rfl
@[simp] theorem decodeCopy_rep (cls param : Byte) (s : State) : (decodeCopy cls param s).rep = s.rep := rfl
@[simp] theorem decodeCopy_gr (cls param : Byte) (s : State) : (decodeCopy cls param s).gr = s.gr := rfl
@[simp] theorem decodeCopy_txbuf (cls param : Byte) (s : State) : (decodeCopy cls param s).txbuf = s.txbuf := rfl
@[simp] theorem decodeCopy_latch (cls param : Byte) (s : State) : (decodeCopy cls param s).latch = s.latch := rfl
@[simp] theorem decodeCopy_build (cls param : Byte) (s : State) : (decodeCopy cls param s).build = s.build := rfl
@[simp] theorem decodeCopy_heldOp (cls param : Byte) (s : State) : (decodeCopy cls param s).heldOp = s.heldOp := rfl
@[simp] theorem decodeCopy_inputs (cls param : Byte) (s : State) : (decodeCopy cls param s).inputs = s.inputs := rfl
@[simp] theorem decodeCopy_replies (cls param : Byte) (s : State) : (decodeCopy cls param s).replies = s.replies := rfl
@[simp] theorem decodeCopy_freeCount (cls param : Byte) (s : State) : (decodeCopy cls param s).freeCount = s.freeCount := rfl
@[simp] theorem decodeCopy_pmemEpoch (cls param : Byte) (s : State) : (decodeCopy cls param s).pmemEpoch = s.pmemEpoch := rfl

@[simp] theorem mergePulse_buf (d : BitVec 64) (s : State) : (mergePulse d s).buf = s.buf := rfl
@[simp] theorem mergePulse_bufValid (d : BitVec 64) (s : State) : (mergePulse d s).bufValid = s.bufValid := rfl
@[simp] theorem mergePulse_stage (d : BitVec 64) (s : State) : (mergePulse d s).stage = s.stage := rfl
@[simp] theorem mergePulse_stageLen (d : BitVec 64) (s : State) : (mergePulse d s).stageLen = s.stageLen := rfl
@[simp] theorem mergePulse_cmdKind (d : BitVec 64) (s : State) : (mergePulse d s).cmdKind = s.cmdKind := rfl
@[simp] theorem mergePulse_cmdValue (d : BitVec 64) (s : State) : (mergePulse d s).cmdValue = s.cmdValue := rfl
@[simp] theorem mergePulse_cmdDevice (d : BitVec 64) (s : State) : (mergePulse d s).cmdDevice = s.cmdDevice := rfl
@[simp] theorem mergePulse_cmdAddr (d : BitVec 64) (s : State) : (mergePulse d s).cmdAddr = s.cmdAddr := rfl
@[simp] theorem mergePulse_cmdRoom (d : BitVec 64) (s : State) : (mergePulse d s).cmdRoom = s.cmdRoom := rfl
@[simp] theorem mergePulse_decKind (d : BitVec 64) (s : State) : (mergePulse d s).decKind = s.decKind := rfl
@[simp] theorem mergePulse_decValue (d : BitVec 64) (s : State) : (mergePulse d s).decValue = s.decValue := rfl
@[simp] theorem mergePulse_decDevice (d : BitVec 64) (s : State) : (mergePulse d s).decDevice = s.decDevice := rfl
@[simp] theorem mergePulse_decAddr (d : BitVec 64) (s : State) : (mergePulse d s).decAddr = s.decAddr := rfl
@[simp] theorem mergePulse_decRoom (d : BitVec 64) (s : State) : (mergePulse d s).decRoom = s.decRoom := rfl
@[simp] theorem mergePulse_decClass (d : BitVec 64) (s : State) : (mergePulse d s).decClass = s.decClass := rfl
@[simp] theorem mergePulse_decParam (d : BitVec 64) (s : State) : (mergePulse d s).decParam = s.decParam := rfl
@[simp] theorem mergePulse_decValid (d : BitVec 64) (s : State) : (mergePulse d s).decValid = s.decValid := rfl
@[simp] theorem mergePulse_cfgPin (d : BitVec 64) (s : State) : (mergePulse d s).cfgPin = s.cfgPin := rfl
@[simp] theorem mergePulse_cfgPeriod (d : BitVec 64) (s : State) : (mergePulse d s).cfgPeriod = s.cfgPeriod := rfl
@[simp] theorem mergePulse_cfgRepeats (d : BitVec 64) (s : State) : (mergePulse d s).cfgRepeats = s.cfgRepeats := rfl
@[simp] theorem mergePulse_cfgGapMult (d : BitVec 64) (s : State) : (mergePulse d s).cfgGapMult = s.cfgGapMult := rfl
@[simp] theorem mergePulse_cfgFlags (d : BitVec 64) (s : State) : (mergePulse d s).cfgFlags = s.cfgFlags := rfl
@[simp] theorem mergePulse_pulseCount (d : BitVec 64) (s : State) : (mergePulse d s).pulseCount = s.pulseCount := rfl
@[simp] theorem mergePulse_total (d : BitVec 64) (s : State) : (mergePulse d s).total = s.total + d := rfl
@[simp] theorem mergePulse_waveValid (d : BitVec 64) (s : State) : (mergePulse d s).waveValid = s.waveValid := rfl
@[simp] theorem mergePulse_pidx (d : BitVec 64) (s : State) : (mergePulse d s).pidx = s.pidx := rfl
@[simp] theorem mergePulse_busy (d : BitVec 64) (s : State) : (mergePulse d s).busy = s.busy := rfl
@[simp] theorem mergePulse_lastErr (d : BitVec 64) (s : State) : (mergePulse d s).lastErr = s.lastErr := rfl
@[simp] theorem mergePulse_sticky (d : BitVec 64) (s : State) : (mergePulse d s).sticky = s.sticky := rfl
@[simp] theorem mergePulse_errInfo (d : BitVec 64) (s : State) : (mergePulse d s).errInfo = s.errInfo := rfl
@[simp] theorem mergePulse_st (d : BitVec 64) (s : State) : (mergePulse d s).st = s.st := rfl
@[simp] theorem mergePulse_bi (d : BitVec 64) (s : State) : (mergePulse d s).bi = s.bi := rfl
@[simp] theorem mergePulse_bm (d : BitVec 64) (s : State) : (mergePulse d s).bm = s.bm := rfl
@[simp] theorem mergePulse_rep (d : BitVec 64) (s : State) : (mergePulse d s).rep = s.rep := rfl
@[simp] theorem mergePulse_gr (d : BitVec 64) (s : State) : (mergePulse d s).gr = s.gr := rfl
@[simp] theorem mergePulse_txbuf (d : BitVec 64) (s : State) : (mergePulse d s).txbuf = s.txbuf := rfl
@[simp] theorem mergePulse_latch (d : BitVec 64) (s : State) : (mergePulse d s).latch = s.latch := rfl
@[simp] theorem mergePulse_build (d : BitVec 64) (s : State) : (mergePulse d s).build = s.build := rfl
@[simp] theorem mergePulse_heldOp (d : BitVec 64) (s : State) : (mergePulse d s).heldOp = s.heldOp := rfl
@[simp] theorem mergePulse_inputs (d : BitVec 64) (s : State) : (mergePulse d s).inputs = s.inputs := rfl
@[simp] theorem mergePulse_replies (d : BitVec 64) (s : State) : (mergePulse d s).replies = s.replies := rfl
@[simp] theorem mergePulse_freeCount (d : BitVec 64) (s : State) : (mergePulse d s).freeCount = s.freeCount := rfl
@[simp] theorem mergePulse_pmemEpoch (d : BitVec 64) (s : State) : (mergePulse d s).pmemEpoch = s.pmemEpoch := rfl

@[simp] theorem appendPulse_buf (lvl : Level) (d : BitVec 64) (s : State) : (appendPulse lvl d s).buf = s.buf := rfl
@[simp] theorem appendPulse_bufValid (lvl : Level) (d : BitVec 64) (s : State) : (appendPulse lvl d s).bufValid = s.bufValid := rfl
@[simp] theorem appendPulse_stage (lvl : Level) (d : BitVec 64) (s : State) : (appendPulse lvl d s).stage = s.stage := rfl
@[simp] theorem appendPulse_stageLen (lvl : Level) (d : BitVec 64) (s : State) : (appendPulse lvl d s).stageLen = s.stageLen := rfl
@[simp] theorem appendPulse_cmdKind (lvl : Level) (d : BitVec 64) (s : State) : (appendPulse lvl d s).cmdKind = s.cmdKind := rfl
@[simp] theorem appendPulse_cmdValue (lvl : Level) (d : BitVec 64) (s : State) : (appendPulse lvl d s).cmdValue = s.cmdValue := rfl
@[simp] theorem appendPulse_cmdDevice (lvl : Level) (d : BitVec 64) (s : State) : (appendPulse lvl d s).cmdDevice = s.cmdDevice := rfl
@[simp] theorem appendPulse_cmdAddr (lvl : Level) (d : BitVec 64) (s : State) : (appendPulse lvl d s).cmdAddr = s.cmdAddr := rfl
@[simp] theorem appendPulse_cmdRoom (lvl : Level) (d : BitVec 64) (s : State) : (appendPulse lvl d s).cmdRoom = s.cmdRoom := rfl
@[simp] theorem appendPulse_decKind (lvl : Level) (d : BitVec 64) (s : State) : (appendPulse lvl d s).decKind = s.decKind := rfl
@[simp] theorem appendPulse_decValue (lvl : Level) (d : BitVec 64) (s : State) : (appendPulse lvl d s).decValue = s.decValue := rfl
@[simp] theorem appendPulse_decDevice (lvl : Level) (d : BitVec 64) (s : State) : (appendPulse lvl d s).decDevice = s.decDevice := rfl
@[simp] theorem appendPulse_decAddr (lvl : Level) (d : BitVec 64) (s : State) : (appendPulse lvl d s).decAddr = s.decAddr := rfl
@[simp] theorem appendPulse_decRoom (lvl : Level) (d : BitVec 64) (s : State) : (appendPulse lvl d s).decRoom = s.decRoom := rfl
@[simp] theorem appendPulse_decClass (lvl : Level) (d : BitVec 64) (s : State) : (appendPulse lvl d s).decClass = s.decClass := rfl
@[simp] theorem appendPulse_decParam (lvl : Level) (d : BitVec 64) (s : State) : (appendPulse lvl d s).decParam = s.decParam := rfl
@[simp] theorem appendPulse_decValid (lvl : Level) (d : BitVec 64) (s : State) : (appendPulse lvl d s).decValid = s.decValid := rfl
@[simp] theorem appendPulse_cfgPin (lvl : Level) (d : BitVec 64) (s : State) : (appendPulse lvl d s).cfgPin = s.cfgPin := rfl
@[simp] theorem appendPulse_cfgPeriod (lvl : Level) (d : BitVec 64) (s : State) : (appendPulse lvl d s).cfgPeriod = s.cfgPeriod := rfl
@[simp] theorem appendPulse_cfgRepeats (lvl : Level) (d : BitVec 64) (s : State) : (appendPulse lvl d s).cfgRepeats = s.cfgRepeats := rfl
@[simp] theorem appendPulse_cfgGapMult (lvl : Level) (d : BitVec 64) (s : State) : (appendPulse lvl d s).cfgGapMult = s.cfgGapMult := rfl
@[simp] theorem appendPulse_cfgFlags (lvl : Level) (d : BitVec 64) (s : State) : (appendPulse lvl d s).cfgFlags = s.cfgFlags := rfl
@[simp] theorem appendPulse_pmem (lvl : Level) (d : BitVec 64) (s : State) : (appendPulse lvl d s).pmem = pmemWrite s.pmem s.pulseCount.toNat ⟨(masks s.latch lvl).1, (masks s.latch lvl).2, d⟩ := rfl
@[simp] theorem appendPulse_pulseCount (lvl : Level) (d : BitVec 64) (s : State) : (appendPulse lvl d s).pulseCount = s.pulseCount + 1 := rfl
@[simp] theorem appendPulse_total (lvl : Level) (d : BitVec 64) (s : State) : (appendPulse lvl d s).total = s.total + d := rfl
@[simp] theorem appendPulse_waveValid (lvl : Level) (d : BitVec 64) (s : State) : (appendPulse lvl d s).waveValid = s.waveValid := rfl
@[simp] theorem appendPulse_pidx (lvl : Level) (d : BitVec 64) (s : State) : (appendPulse lvl d s).pidx = s.pidx := rfl
@[simp] theorem appendPulse_busy (lvl : Level) (d : BitVec 64) (s : State) : (appendPulse lvl d s).busy = s.busy := rfl
@[simp] theorem appendPulse_lastErr (lvl : Level) (d : BitVec 64) (s : State) : (appendPulse lvl d s).lastErr = s.lastErr := rfl
@[simp] theorem appendPulse_sticky (lvl : Level) (d : BitVec 64) (s : State) : (appendPulse lvl d s).sticky = s.sticky := rfl
@[simp] theorem appendPulse_errInfo (lvl : Level) (d : BitVec 64) (s : State) : (appendPulse lvl d s).errInfo = s.errInfo := rfl
@[simp] theorem appendPulse_st (lvl : Level) (d : BitVec 64) (s : State) : (appendPulse lvl d s).st = s.st := rfl
@[simp] theorem appendPulse_bi (lvl : Level) (d : BitVec 64) (s : State) : (appendPulse lvl d s).bi = s.bi := rfl
@[simp] theorem appendPulse_bm (lvl : Level) (d : BitVec 64) (s : State) : (appendPulse lvl d s).bm = s.bm := rfl
@[simp] theorem appendPulse_rep (lvl : Level) (d : BitVec 64) (s : State) : (appendPulse lvl d s).rep = s.rep := rfl
@[simp] theorem appendPulse_gr (lvl : Level) (d : BitVec 64) (s : State) : (appendPulse lvl d s).gr = s.gr := rfl
@[simp] theorem appendPulse_txbuf (lvl : Level) (d : BitVec 64) (s : State) : (appendPulse lvl d s).txbuf = s.txbuf := rfl
@[simp] theorem appendPulse_latch (lvl : Level) (d : BitVec 64) (s : State) : (appendPulse lvl d s).latch = s.latch := rfl
@[simp] theorem appendPulse_build (lvl : Level) (d : BitVec 64) (s : State) : (appendPulse lvl d s).build = s.build := rfl
@[simp] theorem appendPulse_heldOp (lvl : Level) (d : BitVec 64) (s : State) : (appendPulse lvl d s).heldOp = s.heldOp := rfl
@[simp] theorem appendPulse_inputs (lvl : Level) (d : BitVec 64) (s : State) : (appendPulse lvl d s).inputs = s.inputs := rfl
@[simp] theorem appendPulse_replies (lvl : Level) (d : BitVec 64) (s : State) : (appendPulse lvl d s).replies = s.replies := rfl
@[simp] theorem appendPulse_freeCount (lvl : Level) (d : BitVec 64) (s : State) : (appendPulse lvl d s).freeCount = s.freeCount := rfl
@[simp] theorem appendPulse_pmemEpoch (lvl : Level) (d : BitVec 64) (s : State) : (appendPulse lvl d s).pmemEpoch = s.pmemEpoch := rfl

@[simp] theorem capacityAbort_buf (s : State) : (capacityAbort s).buf = s.buf := rfl
@[simp] theorem capacityAbort_bufValid (s : State) : (capacityAbort s).bufValid = s.bufValid := rfl
@[simp] theorem capacityAbort_stage (s : State) : (capacityAbort s).stage = s.stage := rfl
@[simp] theorem capacityAbort_stageLen (s : State) : (capacityAbort s).stageLen = s.stageLen := rfl
@[simp] theorem capacityAbort_cmdKind (s : State) : (capacityAbort s).cmdKind = s.cmdKind := rfl
@[simp] theorem capacityAbort_cmdValue (s : State) : (capacityAbort s).cmdValue = s.cmdValue := rfl
@[simp] theorem capacityAbort_cmdDevice (s : State) : (capacityAbort s).cmdDevice = s.cmdDevice := rfl
@[simp] theorem capacityAbort_cmdAddr (s : State) : (capacityAbort s).cmdAddr = s.cmdAddr := rfl
@[simp] theorem capacityAbort_cmdRoom (s : State) : (capacityAbort s).cmdRoom = s.cmdRoom := rfl
@[simp] theorem capacityAbort_decKind (s : State) : (capacityAbort s).decKind = s.decKind := rfl
@[simp] theorem capacityAbort_decValue (s : State) : (capacityAbort s).decValue = s.decValue := rfl
@[simp] theorem capacityAbort_decDevice (s : State) : (capacityAbort s).decDevice = s.decDevice := rfl
@[simp] theorem capacityAbort_decAddr (s : State) : (capacityAbort s).decAddr = s.decAddr := rfl
@[simp] theorem capacityAbort_decRoom (s : State) : (capacityAbort s).decRoom = s.decRoom := rfl
@[simp] theorem capacityAbort_decClass (s : State) : (capacityAbort s).decClass = s.decClass := rfl
@[simp] theorem capacityAbort_decParam (s : State) : (capacityAbort s).decParam = s.decParam := rfl
@[simp] theorem capacityAbort_decValid (s : State) : (capacityAbort s).decValid = s.decValid := rfl
@[simp] theorem capacityAbort_cfgPin (s : State) : (capacityAbort s).cfgPin = s.cfgPin := rfl
@[simp] theorem capacityAbort_cfgPeriod (s : State) : (capacityAbort s).cfgPeriod = s.cfgPeriod := rfl
@[simp] theorem capacityAbort_cfgRepeats (s : State) : (capacityAbort s).cfgRepeats = s.cfgRepeats := rfl
@[simp] theorem capacityAbort_cfgGapMult (s : State) : (capacityAbort s).cfgGapMult = s.cfgGapMult := rfl
@[simp] theorem capacityAbort_cfgFlags (s : State) : (capacityAbort s).cfgFlags = s.cfgFlags := rfl
@[simp] theorem capacityAbort_pmem (s : State) : (capacityAbort s).pmem = [] := rfl
@[simp] theorem capacityAbort_pulseCount (s : State) : (capacityAbort s).pulseCount = 0 := rfl
@[simp] theorem capacityAbort_total (s : State) : (capacityAbort s).total = 0 := rfl
@[simp] theorem capacityAbort_waveValid (s : State) : (capacityAbort s).waveValid = false := rfl
@[simp] theorem capacityAbort_pidx (s : State) : (capacityAbort s).pidx = s.pidx := rfl
@[simp] theorem capacityAbort_busy (s : State) : (capacityAbort s).busy = false := rfl
@[simp] theorem capacityAbort_lastErr (s : State) : (capacityAbort s).lastErr = .capacity := rfl
@[simp] theorem capacityAbort_sticky (s : State) : (capacityAbort s).sticky = s.sticky ||| stickyBit .capacity := rfl
@[simp] theorem capacityAbort_st (s : State) : (capacityAbort s).st = .idle := rfl
@[simp] theorem capacityAbort_bi (s : State) : (capacityAbort s).bi = s.bi := rfl
@[simp] theorem capacityAbort_bm (s : State) : (capacityAbort s).bm = s.bm := rfl
@[simp] theorem capacityAbort_rep (s : State) : (capacityAbort s).rep = s.rep := rfl
@[simp] theorem capacityAbort_gr (s : State) : (capacityAbort s).gr = s.gr := rfl
@[simp] theorem capacityAbort_txbuf (s : State) : (capacityAbort s).txbuf = s.txbuf := rfl
@[simp] theorem capacityAbort_latch (s : State) : (capacityAbort s).latch = s.latch := rfl
@[simp] theorem capacityAbort_build (s : State) : (capacityAbort s).build = s.build := rfl
@[simp] theorem capacityAbort_heldOp (s : State) : (capacityAbort s).heldOp = s.heldOp := rfl
@[simp] theorem capacityAbort_inputs (s : State) : (capacityAbort s).inputs = s.inputs := rfl
@[simp] theorem capacityAbort_replies (s : State) : (capacityAbort s).replies = s.replies := rfl
@[simp] theorem capacityAbort_freeCount (s : State) : (capacityAbort s).freeCount = s.freeCount := rfl
@[simp] theorem capacityAbort_pmemEpoch (s : State) : (capacityAbort s).pmemEpoch = s.pmemEpoch + 1 := rfl

@[simp] theorem hostRead_buf (idx : BitVec 8) (s : State) : (hostRead idx s).buf = s.buf := rfl
@[simp] theorem hostRead_bufValid (idx : BitVec 8) (s : State) : (hostRead idx s).bufValid = s.bufValid := rfl
@[simp] theorem hostRead_stage (idx : BitVec 8) (s : State) : (hostRead idx s).stage = s.stage := rfl
@[simp] theorem hostRead_stageLen (idx : BitVec 8) (s : State) : (hostRead idx s).stageLen = s.stageLen := rfl
@[simp] theorem hostRead_cmdKind (idx : BitVec 8) (s : State) : (hostRead idx s).cmdKind = s.cmdKind := rfl
@[simp] theorem hostRead_cmdValue (idx : BitVec 8) (s : State) : (hostRead idx s).cmdValue = s.cmdValue := rfl
@[simp] theorem hostRead_cmdDevice (idx : BitVec 8) (s : State) : (hostRead idx s).cmdDevice = s.cmdDevice := rfl
@[simp] theorem hostRead_cmdAddr (idx : BitVec 8) (s : State) : (hostRead idx s).cmdAddr = s.cmdAddr := rfl
@[simp] theorem hostRead_cmdRoom (idx : BitVec 8) (s : State) : (hostRead idx s).cmdRoom = s.cmdRoom := rfl
@[simp] theorem hostRead_decKind (idx : BitVec 8) (s : State) : (hostRead idx s).decKind = s.decKind := rfl
@[simp] theorem hostRead_decValue (idx : BitVec 8) (s : State) : (hostRead idx s).decValue = s.decValue := rfl
@[simp] theorem hostRead_decDevice (idx : BitVec 8) (s : State) : (hostRead idx s).decDevice = s.decDevice := rfl
@[simp] theorem hostRead_decAddr (idx : BitVec 8) (s : State) : (hostRead idx s).decAddr = s.decAddr := rfl
@[simp] theorem hostRead_decRoom (idx : BitVec 8) (s : State) : (hostRead idx s).decRoom = s.decRoom := rfl
@[simp] theorem hostRead_decClass (idx : BitVec 8) (s : State) : (hostRead idx s).decClass = s.decClass := rfl
@[simp] theorem hostRead_decParam (idx : BitVec 8) (s : State) : (hostRead idx s).decParam = s.decParam := rfl
@[simp] theorem hostRead_decValid (idx : BitVec 8) (s : State) : (hostRead idx s).decValid = s.decValid := rfl
@[simp] theorem hostRead_cfgPin (idx : BitVec 8) (s : State) : (hostRead idx s).cfgPin = s.cfgPin := rfl
@[simp] theorem hostRead_cfgPeriod (idx : BitVec 8) (s : State) : (hostRead idx s).cfgPeriod = s.cfgPeriod := rfl
@[simp] theorem hostRead_cfgRepeats (idx : BitVec 8) (s : State) : (hostRead idx s).cfgRepeats = s.cfgRepeats := rfl
@[simp] theorem hostRead_cfgGapMult (idx : BitVec 8) (s : State) : (hostRead idx s).cfgGapMult = s.cfgGapMult := rfl
@[simp] theorem hostRead_cfgFlags (idx : BitVec 8) (s : State) : (hostRead idx s).cfgFlags = s.cfgFlags := rfl
@[simp] theorem hostRead_pmem (idx : BitVec 8) (s : State) : (hostRead idx s).pmem = s.pmem := rfl
@[simp] theorem hostRead_pulseCount (idx : BitVec 8) (s : State) : (hostRead idx s).pulseCount = s.pulseCount := rfl
@[simp] theorem hostRead_total (idx : BitVec 8) (s : State) : (hostRead idx s).total = s.total := rfl
@[simp] theorem hostRead_waveValid (idx : BitVec 8) (s : State) : (hostRead idx s).waveValid = s.waveValid := rfl
@[simp] theorem hostRead_pidx (idx : BitVec 8) (s : State) : (hostRead idx s).pidx = s.pidx := rfl
@[simp] theorem hostRead_busy (idx : BitVec 8) (s : State) : (hostRead idx s).busy = s.busy := rfl
@[simp] theorem hostRead_lastErr (idx : BitVec 8) (s : State) : (hostRead idx s).lastErr = s.lastErr := rfl
@[simp] theorem hostRead_sticky (idx : BitVec 8) (s : State) : (hostRead idx s).sticky = s.sticky := rfl
@[simp] theorem hostRead_errInfo (idx : BitVec 8) (s : State) : (hostRead idx s).errInfo = s.errInfo := rfl
@[simp] theorem hostRead_st (idx : BitVec 8) (s : State) : (hostRead idx s).st = s.st := rfl
@[simp] theorem hostRead_bi (idx : BitVec 8) (s : State) : (hostRead idx s).bi = s.bi := rfl
@[simp] theorem hostRead_bm (idx : BitVec 8) (s : State) : (hostRead idx s).bm = s.bm := rfl
@[simp] theorem hostRead_rep (idx : BitVec 8) (s : State) : (hostRead idx s).rep = s.rep := rfl
@[simp] theorem hostRead_gr (idx : BitVec 8) (s : State) : (hostRead idx s).gr = s.gr := rfl
@[simp] theorem hostRead_txbuf (idx : BitVec 8) (s : State) : (hostRead idx s).txbuf = s.txbuf := rfl
@[simp] theorem hostRead_latch (idx : BitVec 8) (s : State) : (hostRead idx s).latch = s.latch := rfl
@[simp] theorem hostRead_build (idx : BitVec 8) (s : State) : (hostRead idx s).build = s.build := rfl
@[simp] theorem hostRead_heldOp (idx : BitVec 8) (s : State) : (hostRead idx s).heldOp = s.heldOp := rfl
@[simp] theorem hostRead_inputs (idx : BitVec 8) (s : State) : (hostRead idx s).inputs = s.inputs := rfl
@[simp] theorem hostRead_replies (idx : BitVec 8) (s : State) : (hostRead idx s).replies = ⟨idx, readValue idx s⟩ :: s.replies := rfl
@[simp] theorem hostRead_pmemEpoch (idx : BitVec 8) (s : State) : (hostRead idx s).pmemEpoch = s.pmemEpoch := rfl

end Sys2Proof.Machine
end

