-- ==== Sys2Proof/Laws/Ops.lean ====
section
/-! SUPPORT. For each shared operation, once, everything it can do. -/

namespace Sys2Proof.Machine

/-! ### Operands -/

theorem setByte_byteAt (b : Bytes10) (i j : Nat) (v : Byte) (hi : i < 10) :
    byteAt (setByte b i v) j = if j = i then some v else byteAt b j := by
  interval_cases i <;> (rcases j with _ | _ | _ | _ | _ | _ | _ | _ | _ | _ | j <;> simp [setByte, byteAt, bytes])

theorem byteAt_isSome (b : Bytes10) (i : Nat) (hi : i < 10) : ∃ v, byteAt b i = some v := by
  interval_cases i <;> exact ⟨_, rfl⟩

theorem byteAt_none (b : Bytes10) (i : Nat) (hi : 10 ≤ i) : byteAt b i = none := by
  simp [byteAt, bytes, hi]

theorem pinMask_ne_zero (l : Latch) : pinMask l ≠ 0 := by
  intro h
  have h2 := congrArg BitVec.toNat h
  have hp : (2 : Nat) ^ l.pin.toNat < 2 ^ 32 := Nat.pow_lt_pow_right (by omega) l.pin.isLt
  simp only [pinMask, BitVec.toNat_ofNat, Nat.mod_eq_of_lt hp] at h2
  simp at h2

/-- The two mask pairs differ (43_waveform.md R233). -/
theorem masks_on_ne_off (l : Latch) : masks l .on ≠ masks l .off := by
  have h := pinMask_ne_zero l
  unfold masks
  cases l.invert
  · intro e
    exact h (congrArg Prod.fst e)
  · intro e
    exact h (congrArg Prod.snd e)

/-! ### The register map -/

/-- Each register of 10_state.md R21 is found at its index. -/
@[simp] theorem regAt_regIndex (r : Reg) : regAt (regIndex r) = some r := by
  cases r <;> rfl

/-! ### Issuing -/

@[simp] theorem issue_idle (w : Word) (s : State) (op : State → Result) (h : s.busy = false) :
    issue w s op = op s := by
  simp [issue, h]

@[simp] theorem issue_busy (w : Word) (s : State) (op : State → Result) (h : s.busy = true) :
    issue w s op = .next { s with heldOp := some w } := by
  simp [issue, h]

/-! ### Pulse emission -/

/-- `add_pulse` merges, appends below the capacity, or aborts (43_waveform.md R230). -/
theorem addPulse_cases (lvl : Level) (d : BitVec 64) (s : State) :
    (merges lvl s = true ∧ addPulse lvl d s = .went (mergePulse d s)) ∨
    (merges lvl s = false ∧ s.pulseCount = s.build.maxPulses ∧
      addPulse lvl d s = .aborted (capacityAbort s)) ∨
    (merges lvl s = false ∧ s.pulseCount ≠ s.build.maxPulses ∧
      addPulse lvl d s = .went (appendPulse lvl d s)) := by
  unfold addPulse
  by_cases hm : merges lvl s = true
  · exact .inl ⟨hm, by simp [hm]⟩
  · by_cases hc : s.pulseCount = s.build.maxPulses
    · exact .inr (.inl ⟨by simpa using hm, hc, by simp [hm, hc]⟩)
    · exact .inr (.inr ⟨by simpa using hm, hc, by simp [hm, hc]⟩)

/-- When a new pulse merges (43_waveform.md R230). -/
theorem merges_iff (lvl : Level) (s : State) :
    merges lvl s = true ↔ 0 < s.pulseCount.toNat ∧
      ((pmemRead s (s.pulseCount.toNat - 1)).on, (pmemRead s (s.pulseCount.toNat - 1)).off) =
        masks s.latch lvl := by
  simp [merges]

/-- `seg_on` is two pulses, and ends early where the first is refused (43_waveform.md R231). -/
theorem segOn_cases (c : Nat) (s : State) :
    (∃ a, addPulse .on (duration s.latch (c - s.build.trailCount.toNat)) s = .aborted a ∧
      segOn c s = .aborted a) ∨
    (∃ m, addPulse .on (duration s.latch (c - s.build.trailCount.toNat)) s = .went m ∧
      segOn c s = addPulse .off (duration m.latch m.build.trailCount.toNat) m) := by
  cases h : addPulse .on (duration s.latch (c - s.build.trailCount.toNat)) s with
  | aborted a => exact .inl ⟨a, rfl, by simp [segOn, h]⟩
  | went m => exact .inr ⟨m, rfl, by simp [segOn, h]⟩

/-- A builder step after its segment always answers a next state (43_waveform.md R221). -/
theorem thenStep_next (e : Emit) (k : State → State) : ∃ t, thenStep e k = .next t := by
  cases e <;> exact ⟨_, rfl⟩

/-- An aborted `add_pulse` is the abort of the state it was called in, at the capacity. -/
theorem addPulse_aborted (lvl : Level) (d : BitVec 64) (s a : State) (h : addPulse lvl d s = .aborted a) :
    s.pulseCount = s.build.maxPulses ∧ a = capacityAbort s := by
  rcases addPulse_cases lvl d s with ⟨_, e⟩ | ⟨_, hc, e⟩ | ⟨_, _, e⟩
  · rw [e] at h; cases h
  · rw [e] at h; cases h; exact ⟨hc, rfl⟩
  · rw [e] at h; cases h

/-! ### The step -/

/-- A step with nothing held and nothing to come is the builder's turn (43_waveform.md R220). -/
theorem step_builder (s : State) (hh : s.heldOp = none) (hi : s.inputs = []) :
    step s = exec (builderInstr s) s := by
  simp [step, fetch, fetchInput, hh, hi]

/-- Everything a step can do: run an instruction, or complete an access. -/
theorem step_cases (s : State) :
    (∃ i s', fetch s = .instr i s' ∧ step s = exec i s') ∨ (∃ s', fetch s = .done s' ∧ step s = .next s') := by
  cases h : fetch s with
  | instr i s' => exact .inl ⟨i, s', rfl, by simp [step, h]⟩
  | done s' => exact .inr ⟨s', rfl, by simp [step, h]⟩

end Sys2Proof.Machine
end

