-- ==== Sys2Proof/Laws/PerInstr.lean ====
section
/-! SUPPORT. The family TableRow: the code of an instruction has the bits that its row of
spec/opcode_table.json fixes. -/

namespace Sys2Proof.Laws.TableRow

/-- The encoder writes the bits that the instruction's row fixes ("match" and "mask"). -/
def Statement (i : Instr) : Prop :=
  i.wf = true →
    (Sys2Proof.encode i).toNat / 2 ^ i.tableFixed.lo % 2 ^ i.tableFixed.len = i.tableFixed.value

/-- The value of an operation word from its opcode and the rest. -/
theorem opWordOf_toNat (o : Byte) (r : BitVec 24) : (opWordOf o r).toNat = o.toNat + 256 * r.toNat := by
  have h1 := o.isLt
  have h2 := r.isLt
  simp only [opWordOf, BitVec.toNat_ofNat]
  omega

/-- The value of a decode key from class and param. -/
theorem keyOf_toNat (c p : Byte) : (keyOf c p).toNat = 256 * c.toNat + p.toNat := by
  have h1 := c.isLt
  have h2 := p.isLt
  simp only [keyOf, BitVec.toNat_ofNat]
  omega

/-- The value of a byte of a block of the table. -/
theorem blockByte_toNat (base : Byte) {n : Nat} (v : BitVec n) :
    (blockByte base v).toNat = (base.toNat + v.toNat) % 256 := by
  simp only [blockByte, BitVec.toNat_ofNat]

theorem nop (ign : BitVec 24) : Statement (.nop ign) := by
  intro _
  have hign := ign.isLt
  simp [Sys2Proof.encode, Encoded.toNat, Instr.tableFixed, opWordOf_toNat]

theorem pushb (imm : Byte) (ign : BitVec 16) : Statement (.pushb imm ign) := by
  intro _
  have himm := imm.isLt
  have hign := ign.isLt
  simp [Sys2Proof.encode, Encoded.toNat, Instr.tableFixed, opWordOf_toNat]

theorem loadbuf (ign : BitVec 24) : Statement (.loadbuf ign) := by
  intro _
  have hign := ign.isLt
  simp [Sys2Proof.encode, Encoded.toNat, Instr.tableFixed, opWordOf_toNat]

theorem encode (ign : BitVec 24) : Statement (.encode ign) := by
  intro _
  have hign := ign.isLt
  simp [Sys2Proof.encode, Encoded.toNat, Instr.tableFixed, opWordOf_toNat]

theorem decode (ign : BitVec 24) : Statement (.decode ign) := by
  intro _
  have hign := ign.isLt
  simp [Sys2Proof.encode, Encoded.toNat, Instr.tableFixed, opWordOf_toNat]

theorem build (ign : BitVec 24) : Statement (.build ign) := by
  intro _
  have hign := ign.isLt
  simp [Sys2Proof.encode, Encoded.toNat, Instr.tableFixed, opWordOf_toNat]

theorem illegal06to07 (lo : BitVec 1) (ign : BitVec 24) : Statement (.illegal06to07 lo ign) := by
  intro _
  have hlo := lo.isLt
  have hign := ign.isLt
  simp [Sys2Proof.encode, Encoded.toNat, Instr.tableFixed, opWordOf_toNat, blockByte_toNat]
  omega

theorem illegal08to0F (lo : BitVec 3) (ign : BitVec 24) : Statement (.illegal08to0F lo ign) := by
  intro _
  have hlo := lo.isLt
  have hign := ign.isLt
  simp [Sys2Proof.encode, Encoded.toNat, Instr.tableFixed, opWordOf_toNat, blockByte_toNat]
  omega

theorem illegal10to1F (lo : BitVec 4) (ign : BitVec 24) : Statement (.illegal10to1F lo ign) := by
  intro _
  have hlo := lo.isLt
  have hign := ign.isLt
  simp [Sys2Proof.encode, Encoded.toNat, Instr.tableFixed, opWordOf_toNat, blockByte_toNat]
  omega

theorem illegal20to3F (lo : BitVec 5) (ign : BitVec 24) : Statement (.illegal20to3F lo ign) := by
  intro _
  have hlo := lo.isLt
  have hign := ign.isLt
  simp [Sys2Proof.encode, Encoded.toNat, Instr.tableFixed, opWordOf_toNat, blockByte_toNat]
  omega

theorem illegal40to7F (lo : BitVec 6) (ign : BitVec 24) : Statement (.illegal40to7F lo ign) := by
  intro _
  have hlo := lo.isLt
  have hign := ign.isLt
  simp [Sys2Proof.encode, Encoded.toNat, Instr.tableFixed, opWordOf_toNat, blockByte_toNat]
  omega

theorem illegal80toFF (lo : BitVec 7) (ign : BitVec 24) : Statement (.illegal80toFF lo ign) := by
  intro _
  have hlo := lo.isLt
  have hign := ign.isLt
  simp [Sys2Proof.encode, Encoded.toNat, Instr.tableFixed, opWordOf_toNat, blockByte_toNat]
  omega

theorem encOn : Statement .encOn := by
  intro _
  decide

theorem encOff : Statement .encOff := by
  intro _
  decide

theorem encDim : Statement .encDim := by
  intro _
  decide

theorem encIncrease : Statement .encIncrease := by
  intro _
  decide

theorem encDecrease : Statement .encDecrease := by
  intro _
  decide

theorem encMood : Statement .encMood := by
  intro _
  decide

theorem encAllOn : Statement .encAllOn := by
  intro _
  decide

theorem encAllOff : Statement .encAllOff := by
  intro _
  decide

theorem encUnmapped (lo : BitVec 3) : Statement (.encUnmapped lo) := by
  intro _
  have hlo := lo.isLt
  simp [Sys2Proof.encode, Encoded.toNat, Instr.tableFixed]
  omega

theorem d0Off (p : BitVec 7) : Statement (.d0Off p) := by
  intro _
  have hp := p.isLt
  simp [Sys2Proof.encode, Encoded.toNat, Instr.tableFixed, keyOf_toNat, blockByte_toNat]
  omega

theorem d0Dim (p : BitVec 5) : Statement (.d0Dim p) := by
  intro _
  have hp := p.isLt
  simp [Sys2Proof.encode, Encoded.toNat, Instr.tableFixed, keyOf_toNat, blockByte_toNat]
  omega

theorem d0Decrease (p : BitVec 5) : Statement (.d0Decrease p) := by
  intro _
  have hp := p.isLt
  simp [Sys2Proof.encode, Encoded.toNat, Instr.tableFixed, keyOf_toNat, blockByte_toNat]
  omega

theorem d0AllOff (p : BitVec 6) : Statement (.d0AllOff p) := by
  intro _
  have hp := p.isLt
  simp [Sys2Proof.encode, Encoded.toNat, Instr.tableFixed, keyOf_toNat, blockByte_toNat]
  omega

theorem d1On (p : BitVec 5) : Statement (.d1On p) := by
  intro _
  have hp := p.isLt
  simp [Sys2Proof.encode, Encoded.toNat, Instr.tableFixed, keyOf_toNat, blockByte_toNat]
  omega

theorem d1Dim32 (p : BitVec 5) : Statement (.d1Dim32 p) := by
  intro _
  have hp := p.isLt
  simp [Sys2Proof.encode, Encoded.toNat, Instr.tableFixed, keyOf_toNat, blockByte_toNat]
  omega

theorem d1Dim64 (p : BitVec 5) : Statement (.d1Dim64 p) := by
  intro _
  have hp := p.isLt
  simp [Sys2Proof.encode, Encoded.toNat, Instr.tableFixed, keyOf_toNat, blockByte_toNat]
  omega

theorem d1Dim96 (p : BitVec 5) : Statement (.d1Dim96 p) := by
  intro _
  have hp := p.isLt
  simp [Sys2Proof.encode, Encoded.toNat, Instr.tableFixed, keyOf_toNat, blockByte_toNat]
  omega

theorem d1Dim128 (p : BitVec 5) : Statement (.d1Dim128 p) := by
  intro _
  have hp := p.isLt
  simp [Sys2Proof.encode, Encoded.toNat, Instr.tableFixed, keyOf_toNat, blockByte_toNat]
  omega

theorem d1Increase (p : BitVec 5) : Statement (.d1Increase p) := by
  intro _
  have hp := p.isLt
  simp [Sys2Proof.encode, Encoded.toNat, Instr.tableFixed, keyOf_toNat, blockByte_toNat]
  omega

theorem d1AllOn192 (p : BitVec 5) : Statement (.d1AllOn192 p) := by
  intro _
  have hp := p.isLt
  simp [Sys2Proof.encode, Encoded.toNat, Instr.tableFixed, keyOf_toNat, blockByte_toNat]
  omega

theorem d1AllOn224 (p : BitVec 5) : Statement (.d1AllOn224 p) := by
  intro _
  have hp := p.isLt
  simp [Sys2Proof.encode, Encoded.toNat, Instr.tableFixed, keyOf_toNat, blockByte_toNat]
  omega

theorem d2MoodLo (param : Byte) : Statement (.d2MoodLo param) := by
  intro _
  have hparam := param.isLt
  simp [Sys2Proof.encode, Encoded.toNat, Instr.tableFixed, keyOf_toNat]
  omega

theorem d2MoodHi (param : Byte) : Statement (.d2MoodHi param) := by
  intro _
  have hparam := param.isLt
  simp [Sys2Proof.encode, Encoded.toNat, Instr.tableFixed, keyOf_toNat]
  omega

theorem d2Err (p : BitVec 1) : Statement (.d2Err p) := by
  intro _
  have hp := p.isLt
  simp [Sys2Proof.encode, Encoded.toNat, Instr.tableFixed, keyOf_toNat, blockByte_toNat]
  omega

theorem dxErr03 (param : Byte) : Statement (.dxErr03 param) := by
  intro _
  have hparam := param.isLt
  simp [Sys2Proof.encode, Encoded.toNat, Instr.tableFixed, keyOf_toNat]
  omega

theorem dxErr04to07 (c : BitVec 2) (param : Byte) : Statement (.dxErr04to07 c param) := by
  intro _
  have hc := c.isLt
  have hparam := param.isLt
  simp [Sys2Proof.encode, Encoded.toNat, Instr.tableFixed, keyOf_toNat, blockByte_toNat]
  omega

theorem dxErr08to0F (c : BitVec 3) (param : Byte) : Statement (.dxErr08to0F c param) := by
  intro _
  have hc := c.isLt
  have hparam := param.isLt
  simp [Sys2Proof.encode, Encoded.toNat, Instr.tableFixed, keyOf_toNat, blockByte_toNat]
  omega

theorem dxErr10to1F (c : BitVec 4) (param : Byte) : Statement (.dxErr10to1F c param) := by
  intro _
  have hc := c.isLt
  have hparam := param.isLt
  simp [Sys2Proof.encode, Encoded.toNat, Instr.tableFixed, keyOf_toNat, blockByte_toNat]
  omega

theorem dxErr20to3F (c : BitVec 5) (param : Byte) : Statement (.dxErr20to3F c param) := by
  intro _
  have hc := c.isLt
  have hparam := param.isLt
  simp [Sys2Proof.encode, Encoded.toNat, Instr.tableFixed, keyOf_toNat, blockByte_toNat]
  omega

theorem dxErr40to7F (c : BitVec 6) (param : Byte) : Statement (.dxErr40to7F c param) := by
  intro _
  have hc := c.isLt
  have hparam := param.isLt
  simp [Sys2Proof.encode, Encoded.toNat, Instr.tableFixed, keyOf_toNat, blockByte_toNat]
  omega

theorem dxErr80toFF (c : BitVec 7) (param : Byte) : Statement (.dxErr80toFF c param) := by
  intro _
  have hc := c.isLt
  have hparam := param.isLt
  simp [Sys2Proof.encode, Encoded.toNat, Instr.tableFixed, keyOf_toNat, blockByte_toNat]
  omega

theorem stMessageStart : Statement .stMessageStart := by
  intro _
  decide

theorem stByteStart : Statement .stByteStart := by
  intro _
  decide

theorem stSendByte : Statement .stSendByte := by
  intro _
  decide

theorem stMessageEnd : Statement .stMessageEnd := by
  intro _
  decide

theorem stGapStart : Statement .stGapStart := by
  intro _
  decide

theorem stGapEnd : Statement .stGapEnd := by
  intro _
  decide

theorem stIdle : Statement .stIdle := by
  intro _
  decide

end Sys2Proof.Laws.TableRow
end

