-- ==== Sys2Proof/Tests/Slice0.lean ====
section
/-! SUPPORT. Tests and witnesses.

Codes are written out from 30_encoding.md and spec/opcode_table.json; expected results are the spec's own vectors
(95_test_vectors.md, cited by id) or hand calculation from the rule cited. A theorem `witness_<obligation>…` shows
concrete values that meet the hypotheses of that obligation together. -/

namespace Sys2Proof.Tests

open Sys2Proof.Machine Sys2Proof.Claims

/-! ### Well-formedness: the ill-formed term of each check is refused -/

theorem test_wf_mood_lo_below_range : (Instr.d2MoodLo 1).wf = false := by decide
theorem test_wf_mood_lo_above_range : (Instr.d2MoodLo 130).wf = false := by decide
theorem test_wf_mood_hi_below_range : (Instr.d2MoodHi 129).wf = false := by decide
theorem test_wf_build_trail_not_below_high : (BuildParams.wf ⟨4, 4, 7, 72, 1600⟩) = false := by decide
theorem test_wf_build_trail_zero : (BuildParams.wf ⟨4, 0, 7, 72, 1600⟩) = false := by decide
theorem test_wf_build_low_zero : (BuildParams.wf ⟨4, 2, 0, 72, 1600⟩) = false := by decide
theorem test_wf_build_gap_zero : (BuildParams.wf ⟨4, 2, 7, 0, 1600⟩) = false := by decide
theorem test_wf_build_max_zero : (BuildParams.wf ⟨4, 2, 7, 72, 0⟩) = false := by decide
theorem test_wf_defaults : Config.defaultBuild.wf = true := by decide

/-! ### Decoding: one code for each constructor -/

/-- 30_encoding.md R83, R84: OPCODE in bits [7:0], IMM8 in [15:8]. -/
theorem test_decode_operation_words :
    decodeOp 0xFFFF5A00 = .nop 0xFFFF5A ∧ decodeOp 0xBEEF0901 = .pushb 0x09 0xBEEF ∧
    decodeOp 0x00000002 = .loadbuf 0 ∧ decodeOp 0xABCD0003 = .encode 0xABCD00 ∧
    decodeOp 0x00000004 = .decode 0 ∧ decodeOp 0x80000005 = .build 0x800000 := by decide

/-- 30_encoding.md R85: the reserved opcodes, each block at both ends. -/
theorem test_decode_reserved_opcodes :
    decodeOp 0x00000006 = .illegal06to07 0 0 ∧ decodeOp 0x00000007 = .illegal06to07 1 0 ∧
    decodeOp 0x00000008 = .illegal08to0F 0 0 ∧ decodeOp 0x0000000F = .illegal08to0F 7 0 ∧
    decodeOp 0x00000010 = .illegal10to1F 0 0 ∧ decodeOp 0x0000001F = .illegal10to1F 15 0 ∧
    decodeOp 0x00000020 = .illegal20to3F 0 0 ∧ decodeOp 0x0000003F = .illegal20to3F 31 0 ∧
    decodeOp 0x00000040 = .illegal40to7F 0 0 ∧ decodeOp 0x0000007F = .illegal40to7F 63 0 ∧
    decodeOp 0x00000080 = .illegal80toFF 0 0 ∧ decodeOp 0x000000FF = .illegal80toFF 127 0 := by decide

/-- 30_encoding.md R87, R88: the kind codes. -/
theorem test_decode_kinds :
    decodeKind 0 = .encOn ∧ decodeKind 1 = .encOff ∧ decodeKind 2 = .encDim ∧ decodeKind 3 = .encIncrease ∧
    decodeKind 4 = .encDecrease ∧ decodeKind 5 = .encMood ∧ decodeKind 6 = .encAllOn ∧
    decodeKind 7 = .encAllOff ∧ decodeKind 8 = .encUnmapped 0 ∧ decodeKind 15 = .encUnmapped 7 := by decide

/-- 30_encoding.md R93: class 0, each row at both ends (95_test_vectors.md D1 to D8). -/
theorem test_decode_keys_class0 :
    decodeKey 0x0000 = .d0Off 0 ∧ decodeKey 0x007F = .d0Off 127 ∧
    decodeKey 0x0080 = .d0Dim 0 ∧ decodeKey 0x009F = .d0Dim 31 ∧
    decodeKey 0x00A0 = .d0Decrease 0 ∧ decodeKey 0x00BF = .d0Decrease 31 ∧
    decodeKey 0x00C0 = .d0AllOff 0 ∧ decodeKey 0x00FF = .d0AllOff 63 := by decide

/-- Class 1 (95_test_vectors.md D9 to D24). -/
theorem test_decode_keys_class1 :
    decodeKey 0x0100 = .d1On 0 ∧ decodeKey 0x011F = .d1On 31 ∧
    decodeKey 0x0120 = .d1Dim32 0 ∧ decodeKey 0x013F = .d1Dim32 31 ∧
    decodeKey 0x0140 = .d1Dim64 0 ∧ decodeKey 0x015F = .d1Dim64 31 ∧
    decodeKey 0x0160 = .d1Dim96 0 ∧ decodeKey 0x017F = .d1Dim96 31 ∧
    decodeKey 0x0180 = .d1Dim128 0 ∧ decodeKey 0x019F = .d1Dim128 31 ∧
    decodeKey 0x01A0 = .d1Increase 0 ∧ decodeKey 0x01BF = .d1Increase 31 ∧
    decodeKey 0x01C0 = .d1AllOn192 0 ∧ decodeKey 0x01DF = .d1AllOn192 31 ∧
    decodeKey 0x01E0 = .d1AllOn224 0 ∧ decodeKey 0x01FF = .d1AllOn224 31 := by decide

/-- Class 2 and the other classes (95_test_vectors.md D25 to D32). -/
theorem test_decode_keys_mood_and_errors :
    decodeKey 0x0200 = .d2Err 0 ∧ decodeKey 0x0201 = .d2Err 1 ∧
    decodeKey 0x0202 = .d2MoodLo 2 ∧ decodeKey 0x0281 = .d2MoodLo 129 ∧
    decodeKey 0x0282 = .d2MoodHi 130 ∧ decodeKey 0x02FF = .d2MoodHi 255 ∧
    decodeKey 0x0340 = .dxErr03 64 ∧ decodeKey 0x0400 = .dxErr04to07 0 0 ∧
    decodeKey 0x07FF = .dxErr04to07 3 255 ∧ decodeKey 0x0801 = .dxErr08to0F 0 1 ∧
    decodeKey 0x0F00 = .dxErr08to0F 7 0 ∧ decodeKey 0x1002 = .dxErr10to1F 0 2 ∧
    decodeKey 0x2003 = .dxErr20to3F 0 3 ∧ decodeKey 0x4004 = .dxErr40to7F 0 4 ∧
    decodeKey 0x8005 = .dxErr80toFF 0 5 ∧ decodeKey 0xFF00 = .dxErr80toFF 127 0 := by decide

/-- 30_encoding.md R89: the state codes; 7 is never entered. -/
theorem test_decode_states :
    decodeState 0 = .ok .stIdle ∧ decodeState 1 = .ok .stMessageStart ∧ decodeState 2 = .ok .stByteStart ∧
    decodeState 3 = .ok .stSendByte ∧ decodeState 4 = .ok .stMessageEnd ∧ decodeState 5 = .ok .stGapStart ∧
    decodeState 6 = .ok .stGapEnd ∧ decodeState 7 = .error .builderStateNeverEntered :=
  ⟨rfl, rfl, rfl, rfl, rfl, rfl, rfl, rfl⟩

/-- The table's numbers in whole bytes (log 16). -/
theorem test_decode_table_words :
    decodeTableWord 8 0x01 = some (.pushb 0 0) ∧ decodeTableWord 8 0x80 = some (.illegal80toFF 0 0) ∧
    decodeTableWord 16 0x0180 = some (.d1Dim128 0) ∧ decodeTableWord 4 7 = some .encAllOff ∧
    decodeTableWord 3 6 = some .stGapEnd ∧ decodeTableWord 3 7 = none := by decide

/-! ### Small states -/

/-- The state of an answer; the reset state where there is none. -/
def nextOf (r : Host.Outcome State Fault Refusal) : State :=
  match r with
  | .next s => s
  | .fault _ => State.reset
  | .refused _ => State.reset

/-- The source's first buffer, `B` of 95_test_vectors.md. -/
def bufB : Bytes10 := ⟨0x09, 0x0F, 0x03, 0x01, 0x05, 0x09, 0x03, 0x00, 0x01, 0x02⟩

/-- A block holding the buffer `b`. -/
def loaded (b : Bytes10) : State := { State.reset with buf := b, bufValid := true }

/-- The command registers of 95_test_vectors.md 2.1 with a kind and a value. -/
def commanded (k : BitVec 4) (v : Byte) : State :=
  { State.reset with cmdKind := k, cmdValue := v, cmdDevice := 3, cmdAddr := ⟨5, 9, 3, 0, 1⟩, cmdRoom := 2 }

/-- A key's class and param in a buffer with device 3. -/
def keyed (b0 b1 cls : Byte) : State := loaded ⟨b0, b1, 3, cls, 5, 9, 3, 0, 1, 2⟩

/-- A build in progress on pin 4, translation off, at a builder state, with two pulses of the default lengths. -/
def building (st : BuilderState) : State :=
  { loaded bufB with
    cfgPin := 4, cfgFlags := 4, cfgRepeats := 2, busy := true, st := st, bm := 0x80, txbuf := bufB
    latch := ⟨4, 140, 2, 0, false, true⟩, pulseCount := 2, total := 560
    pmem := [(0, ⟨0x10, 0, 280⟩), (1, ⟨0, 0x10, 280⟩)] }

/-- A block ready to build, untranslated, without a trailing gap, one repetition of ten zero bytes. -/
def readyZero : State :=
  { loaded Bytes10.zero with cfgPin := 4, cfgFlags := 0, cfgRepeats := 1 }

/-! ### One step of each family -/

/-- 95_test_vectors.md B1: PUSHB 0x09. -/
theorem test_pushb : (nextOf (exec (.pushb 0x09 0) State.reset)).stageLen = 1 ∧
    (nextOf (exec (.pushb 0x09 0) State.reset)).stage.b0 = 0x09 := by decide

/-- 40_buffer_ops.md R122: the count saturates at 255. -/
theorem test_pushb_saturates :
    (nextOf (exec (.pushb 7 0) { State.reset with stageLen := 255 })).stageLen = 255 := by decide

/-- 95_test_vectors.md S4: LOADBUF with nothing pushed. -/
theorem test_loadbuf_empty : (nextOf (exec (.loadbuf 0) State.reset)).errInfo = 0x00010000 ∧
    (nextOf (exec (.loadbuf 0) State.reset)).lastErr = .validation := by decide

/-- 95_test_vectors.md B2: LOADBUF with ten bytes. -/
theorem test_loadbuf_ten :
    readReg .bufW0 (nextOf (exec (.loadbuf 0) { State.reset with stage := bufB, stageLen := 10 })) = 0x01030F09 := by
  decide

/-- 95_test_vectors.md B7: NOP keeps LAST_ERR. -/
theorem test_nop : (nextOf (exec (.nop 0) { State.reset with lastErr := .decoding })).lastErr = .decoding := by
  decide

/-- 95_test_vectors.md B8: opcode 0x06. -/
theorem test_illegal : statusWord (nextOf (exec (.illegal06to07 0 0) State.reset)) = 0x00400600 ∧
    (nextOf (exec (.illegal06to07 0 0) State.reset)).errInfo = 0x00000006 := by decide

/-- 95_test_vectors.md E5 (Dim 31), E8 (Dim 192 wraps), E15 (Mood 127), E24 (AllOff). -/
theorem test_encode : readReg .bufW0 (nextOf (exec (.encode 0) (commanded 2 31))) = 0x01030F05 ∧
    readReg .bufW0 (nextOf (exec (.encode 0) (commanded 2 192))) = 0x01030000 ∧
    readReg .bufW0 (nextOf (exec (.encode 0) (commanded 5 127))) = 0x02030108 ∧
    readReg .bufW0 (nextOf (exec (.encode 0) (commanded 7 0))) = 0x0003000C := by decide

/-- 95_test_vectors.md E1, E3, E9, E13, E20: the rows themselves. -/
theorem test_encode_rows : readReg .bufW0 (nextOf (exec .encOn (commanded 0 7))) = 0x01030000 ∧
    readReg .bufW0 (nextOf (exec .encOff (commanded 1 0))) = 0x00030004 ∧
    readReg .bufW0 (nextOf (exec .encIncrease (commanded 3 0))) = 0x0103000A ∧
    readReg .bufW0 (nextOf (exec .encDecrease (commanded 4 0))) = 0x0003000A ∧
    readReg .bufW0 (nextOf (exec .encAllOn (commanded 6 0))) = 0x0103000C := by decide

/-- 95_test_vectors.md S3: kind 8. -/
theorem test_encode_unmapped : (nextOf (exec (.encode 0) (commanded 8 0))).errInfo = 0x00000008 ∧
    (nextOf (exec (.encode 0) (commanded 8 0))).bufValid = false := by decide

/-- 95_test_vectors.md S1: DECODE of `B` gives Dim(31). -/
theorem test_decode_dim : (nextOf (exec (.decode 0) (loaded bufB))).decKind = 2 ∧
    (nextOf (exec (.decode 0) (loaded bufB))).decValue = 31 ∧
    readReg .decAddrLo (nextOf (exec (.decode 0) (loaded bufB))) = 0x00030905 := by decide

/-- 95_test_vectors.md D33, D34, D35: byte 0 loses its high nibble, byte 1 is ORed whole. -/
theorem test_decode_odd_nibbles : (nextOf (exec (.decode 0) (keyed 0xF9 0x0F 1))).decParam = 159 ∧
    (nextOf (exec (.decode 0) (keyed 0x00 0xFF 1))).decParam = 255 ∧
    (nextOf (exec (.decode 0) (keyed 0x04 0x30 1))).decValue = 16 := by decide

/-- 95_test_vectors.md D26, D27, D28: the mood rows at their ends. -/
theorem test_decode_moods : (nextOf (exec (.decode 0) (keyed 0x08 0x01 2))).decValue = 128 ∧
    (nextOf (exec (.decode 0) (keyed 0x08 0x02 2))).decValue = 1 ∧
    (nextOf (exec (.decode 0) (keyed 0x0F 0x0F 2))).decValue = 126 := by decide

/-- 95_test_vectors.md D30, D31, D36: the failures. -/
theorem test_decode_errors : (nextOf (exec (.decode 0) (keyed 0x00 0x01 2))).errInfo = 0x00000201 ∧
    (nextOf (exec (.decode 0) (keyed 0x04 0x00 3))).errInfo = 0x00000340 ∧
    (nextOf (exec (.decode 0) State.reset)).errInfo = 0x00040000 := by decide

/-- 43_waveform.md R211: the checks of BUILD in order. -/
theorem test_build_checks : (nextOf (exec (.build 0) { State.reset with cfgRepeats := 0 })).errInfo = 0x00040000 ∧
    (nextOf (exec (.build 0) { readyZero with cfgRepeats := 0, cfgPeriod := 0 })).errInfo = 0x00020000 ∧
    (nextOf (exec (.build 0) { readyZero with cfgPeriod := 0 })).errInfo = 0x00030000 := by decide

/-- 43_waveform.md R250, step 1: the pulses of the first MessageStart. -/
theorem test_message_start :
    (nextOf (exec .stMessageStart (nextOf (exec (.build 0) readyZero)))).pmem =
      [(0, ⟨0x10, 0, 280⟩), (1, ⟨0, 0x10, 280⟩)] := by decide

/-- 43_waveform.md R223: ByteStart appends, since the last pulse is OFF. -/
theorem test_byte_start : (nextOf (exec .stByteStart (building .byteStart))).pulseCount = 4 ∧
    (nextOf (exec .stByteStart { building .byteStart with bm := 0 })).bm = 0x80 := by decide

/-- 43_waveform.md R224: a 0 bit adds 980 microseconds to the OFF pulse. -/
theorem test_send_zero_bit : (nextOf (exec .stSendByte (building .sendByte))).pmem =
    [(0, ⟨0x10, 0, 280⟩), (1, ⟨0, 0x10, 1260⟩)] := by decide

/-- 43_waveform.md R224: the last bit of the last byte leads to MessageEnd. -/
theorem test_send_last_bit :
    (nextOf (exec .stSendByte { building .sendByte with bi := 9, bm := 1 })).st = .messageEnd ∧
    (nextOf (exec .stSendByte { building .sendByte with bi := 9, bm := 1 })).bi = 10 := by decide

/-- 43_waveform.md R225: with a trailing gap the message is followed by GapStart. -/
theorem test_message_end : (nextOf (exec .stMessageEnd (building .messageEnd))).st = .gapStart := by decide

/-- 43_waveform.md R226: one gap unit is 72 ticks, 10080 microseconds. -/
theorem test_gap_start : (nextOf (exec .stGapStart (building .gapStart))).total = 560 + 10080 := by decide

/-- 43_waveform.md R227: the terminal GapEnd emits nothing, the restarting one 560 microseconds. -/
theorem test_gap_end : (nextOf (exec .stGapEnd { building .gapEnd with rep := 1 })).waveValid = true ∧
    (nextOf (exec .stGapEnd { building .gapEnd with rep := 1 })).total = 560 ∧
    (nextOf (exec .stGapEnd (building .gapEnd))).total = 1120 := by decide

/-- 10_state.md R25, R43: STATUS and the parameters after reset. -/
theorem test_reset_registers : readReg .status State.reset = 0 ∧ readReg .param0 State.reset = 0x48070204 ∧
    readReg .param1 State.reset = 1600 ∧ readReg .cfgFlags State.reset = 5 := by decide

/-! ### Witnesses: encoding and the step -/

theorem witness_EncodeThenDecodeIsIdentity : (Instr.d2MoodLo 2).wf = true ∧ (Instr.d2MoodLo 129).wf = true ∧
    (Instr.d2MoodHi 130).wf = true ∧ (Instr.d2MoodHi 255).wf = true ∧ (Instr.encUnmapped 7).wf = true := by
  decide

theorem witness_DecodedCodeEncodesBack : decode (.decodeKey 0x0281) = .ok (.d2MoodLo 129) ∧
    decode (.builderState 6) = .ok .stGapEnd := ⟨rfl, rfl⟩

theorem witness_OperationWordFollowsTheOpcodeMap :
    ((0xFFFFFF00 : Word).extractLsb' 0 8).toNat = 0 ∧ ((0x00000001 : Word).extractLsb' 0 8).toNat = 1 ∧
    ((0x00000002 : Word).extractLsb' 0 8).toNat = 2 ∧ ((0x00000003 : Word).extractLsb' 0 8).toNat = 3 ∧
    ((0x00000004 : Word).extractLsb' 0 8).toNat = 4 ∧ ((0x00000005 : Word).extractLsb' 0 8).toNat = 5 ∧
    6 ≤ ((0x00000006 : Word).extractLsb' 0 8).toNat ∧ 6 ≤ ((0x000000FF : Word).extractLsb' 0 8).toNat ∧
    State.reset.busy = false := by decide

theorem witness_IgnoredBitsHaveNoEffect :
    (0xFFFF5A01 : Word).extractLsb' 0 8 = (0x00005A01 : Word).extractLsb' 0 8 ∧
    ((0xFFFF5A01 : Word).extractLsb' 0 8 = 1 →
      (0xFFFF5A01 : Word).extractLsb' 8 8 = (0x00005A01 : Word).extractLsb' 8 8) ∧
    State.reset.busy = false := by decide

/-- The four clauses: a write to OP, a held write, an enabled builder step with no input and with a turn. -/
theorem witness_StepRunsTheDecodedInstruction :
    ({ State.reset with inputs := [.write 0 3] } : State).heldOp = none ∧
    (({ State.reset with heldOp := some 3 } : State).busy = false ∧
      ∀ rest, ({ State.reset with heldOp := some 3 } : State).inputs ≠ .reset :: rest) ∧
    (decodeState (stateCode (building .sendByte).st) = .ok .stSendByte ∧ (building .sendByte).busy = true ∧
      (building .sendByte).heldOp = none ∧ (building .sendByte).inputs = []) ∧
    decodeState (stateCode ({ building .gapEnd with inputs := [.turn], heldOp := some 0 } : State).st) =
      .ok .stGapEnd := by
  refine ⟨rfl, ⟨rfl, ?_⟩, ⟨rfl, rfl, rfl, rfl⟩, rfl⟩
  intro rest h
  cases h

theorem witness_PlacedCodeRunsItsRow : decodeState 1 = .ok .stMessageStart ∧ decodeState 6 = .ok .stGapEnd :=
  ⟨rfl, rfl⟩

/-- The three clauses: a write while BUSY; a held write while BUSY with a read waiting; one with BUSY 0. -/
theorem witness_OpWriteWhileBusyIsHeld :
    (building .gapStart).busy = true ∧
    (({ building .gapStart with heldOp := some 5, inputs := [.read 1] } : State).heldOp = some 5 ∧
      (∀ rest, ({ building .gapStart with heldOp := some 5, inputs := [.read 1] } : State).inputs ≠ .reset :: rest) ∧
      ∀ rest, ({ building .gapStart with heldOp := some 5, inputs := [.read 1] } : State).inputs ≠ .turn :: rest) ∧
    (({ State.reset with heldOp := some 5 } : State).busy = false ∧
      ∀ rest, ({ State.reset with heldOp := some 5 } : State).inputs ≠ .reset :: rest) := by
  refine ⟨rfl, ⟨rfl, ?_, ?_⟩, rfl, ?_⟩ <;> (intro rest h; cases h)

theorem witness_OtherHostAccessesCompleteAtOnce :
    (building .sendByte).heldOp = none ∧ (1 : BitVec 8) ≠ 0 ∧ (0xFF : BitVec 8) ≠ 0 ∧
    ({ building .sendByte with inputs := [.read 0] } : State).inputs = [Input.read 0] ∧
    ({ building .sendByte with inputs := [.write 0x1C 0] } : State).inputs = [Input.write 0x1C 0] := by decide

theorem witness_ResetInputRestoresTheResetValues :
    ({ building .sendByte with heldOp := some 5, inputs := [.reset, .turn] } : State).inputs =
      [Input.reset, Input.turn] := rfl

/-! ### Witnesses: buffer operations and the codec -/

theorem witness_NopChangesNothing : State.reset.busy = false ∧ (building .byteStart).busy = true := by decide

/-- The count below ten, at ten, and saturated. -/
theorem witness_PushbStagesAndCounts :
    ({ State.reset with stageLen := 9 } : State).busy = false ∧
    ({ State.reset with stageLen := 10 } : State).busy = false ∧
    ({ State.reset with stageLen := 255 } : State).busy = false := by decide

theorem witness_LoadbufCommitsExactlyTenBytes :
    ({ State.reset with stageLen := 10 } : State).stageLen.toNat = 10 ∧
    ({ State.reset with stageLen := 9 } : State).stageLen.toNat ≠ 10 ∧
    ({ State.reset with stageLen := 255 } : State).stageLen.toNat ≠ 10 ∧ State.reset.busy = false := by decide

theorem witness_PushesThenLoadbufObeyTheLengthLaw : State.reset.busy = false ∧ State.reset.stageLen = 0 ∧
    (bytes bufB).length = 10 ∧ ([] : List Byte).length ≠ 10 ∧ (List.replicate 11 (0 : Byte)).length ≠ 10 := by
  decide

theorem witness_ReservedOpcodesRaiseIllegalOpcode : (loaded bufB).busy = false := by decide

/-- The last mapped kind and the first unmapped one. -/
theorem witness_EncodeFollowsTheEncodeTable : (commanded 7 0).busy = false ∧ (commanded 8 0).busy = false ∧
    encTable 7 0 = some (0, 192) ∧ encTable 8 0 = none := by decide

theorem witness_EncodeRunsTheRowOfItsKind : (commanded 15 0).busy = false := by decide

/-- NO_BUFFER, and the table at the ends of the error rows. -/
theorem witness_DecodeFollowsTheDecodeTable : State.reset.bufValid = false ∧ State.reset.busy = false ∧
    (keyed 0x00 0x01 2).bufValid = true ∧ (keyed 0x00 0x01 2).busy = false ∧
    decTable 2 1 = none ∧ decTable 2 2 = some (5, 1) ∧ decTable 2 129 = some (5, 128) ∧
    decTable 2 130 = some (5, 1) ∧ decTable 3 0 = none := by decide

/-- Each mood range at both ends. -/
theorem witness_DecodeRowsOfMoodAndErrors :
    (2 ≤ (2 : Byte).toNat ∧ (2 : Byte).toNat ≤ 129) ∧ (2 ≤ (129 : Byte).toNat ∧ (129 : Byte).toNat ≤ 129) ∧
    130 ≤ (130 : Byte).toNat ∧ 130 ≤ (255 : Byte).toNat := by decide

theorem witness_DecodeRunsTheRowOfItsKey : (loaded bufB).busy = false ∧ (loaded bufB).bufValid = true := by decide

theorem witness_DecodedValuesStayInTheirRanges : (loaded bufB).busy = false ∧
    exec (.decode 0) (loaded bufB) = .next (nextOf (exec (.decode 0) (loaded bufB))) ∧
    (nextOf (exec (.decode 0) (loaded bufB))).lastErr = .noError := ⟨rfl, rfl, by decide⟩

/-- A command that decodes, one that does not, and the last kind. -/
theorem witness_DecodeAfterEncodeFollowsTheRoundTripTable :
    (commanded 2 31).busy = false ∧ (commanded 2 31).cmdKind.toNat ≤ 7 ∧ (commanded 7 255).cmdKind.toNat ≤ 7 ∧
    roundTrip 2 31 = some (2, 31) ∧ roundTrip 5 253 = some (5, 126) ∧ roundTrip 5 254 = none := by decide

/-- A buffer that is an image (D14), one that is not (`B`), a class-0 Dim (D3), a Mood (D26). -/
theorem witness_EncodeAfterDecodeRestoresOnlyImages :
    (keyed 0x05 0x0F 1).busy = false ∧
    exec (.decode 0) (keyed 0x05 0x0F 1) = .next (nextOf (exec (.decode 0) (keyed 0x05 0x0F 1))) ∧
    (nextOf (exec (.decode 0) (keyed 0x05 0x0F 1))).lastErr = .noError ∧
    (nextOf (exec (.decode 0) (loaded bufB))).lastErr = .noError ∧
    (nextOf (exec (.decode 0) (keyed 0x08 0x00 0))).decKind = 2 ∧
    (nextOf (exec (.decode 0) (keyed 0x08 0x01 2))).decKind = 5 := by
  exact ⟨rfl, rfl, by decide, by decide, by decide, by decide⟩

/-! ### Witnesses: the builder -/

theorem witness_BuildClearsValidatesAndLatches : State.reset.busy = false ∧ State.reset.bufValid = false ∧
    ({ readyZero with cfgRepeats := 0 } : State).cfgRepeats = 0 ∧
    ({ readyZero with cfgPeriod := 0 } : State).cfgPeriod = 0 ∧ readyZero.busy = false ∧
    readyZero.bufValid = true ∧ readyZero.cfgRepeats ≠ 0 ∧ readyZero.cfgPeriod ≠ 0 := by decide

/-- No pulse yet, with the least capacity that fits. -/
theorem witness_MessageStartSendsItsFramingPulse :
    let s : State := { State.reset with build := ⟨4, 2, 7, 72, 2⟩ };
    s.build.wf = true ∧ ReadyForOn s ∧ s.pulseCount.toNat + 2 ≤ s.build.maxPulses.toNat :=
  ⟨by decide, .inl (by decide), by decide⟩

theorem lastOff_building (st : BuilderState) : LastPulseOff (building st) := by
  cases st <;> exact ⟨by decide, by decide⟩

theorem witness_ByteStartSendsItsPulseAndStartsAtTheTopBit :
    (building .byteStart).build.wf = true ∧ ReadyForOn (building .byteStart) ∧
    (building .byteStart).pulseCount.toNat + 2 ≤ (building .byteStart).build.maxPulses.toNat :=
  ⟨by decide, .inr (lastOff_building _), by decide⟩

/-- A 1 bit in the middle of a byte, and the last bit of the last byte, a 0. -/
theorem witness_SendByteSendsOneBit :
    (let s : State := { building .sendByte with bm := 0x08 };
      s.build.wf = true ∧ byteAt s.txbuf s.bi.toNat = some 0x09 ∧ s.st = .sendByte ∧
      (0x09 : Byte) &&& s.bm ≠ 0 ∧ ReadyForOn s ∧ s.pulseCount.toNat + 2 ≤ s.build.maxPulses.toNat) ∧
    (let s : State := { building .sendByte with bi := 9, bm := 0x01 };
      s.build.wf = true ∧ byteAt s.txbuf s.bi.toNat = some 0x02 ∧ s.st = .sendByte ∧
      (0x02 : Byte) &&& s.bm = 0 ∧ LastPulseOff s) :=
  ⟨⟨by decide, by decide, rfl, by decide, .inr ⟨by decide, by decide⟩, by decide⟩,
    by decide, by decide, rfl, by decide, ⟨by decide, by decide⟩⟩

/-- The last message without a trailing gap (REP + 1 = N); and one with it. -/
theorem witness_MessageEndFinishesOrStartsTheGap :
    (let s : State := { building .messageEnd with rep := 1, latch := ⟨4, 140, 2, 0, false, false⟩ };
      s.build.wf = true ∧ ReadyForOn s ∧ s.pulseCount.toNat + 2 ≤ s.build.maxPulses.toNat ∧
      (s.latch.trailing = false ∧ s.latch.repeats.toNat ≤ s.rep.toNat + 1)) ∧
    (let s : State := building .messageEnd;
      s.build.wf = true ∧ ReadyForOn s ∧ s.pulseCount.toNat + 2 ≤ s.build.maxPulses.toNat ∧
      ¬ (s.latch.trailing = false ∧ s.latch.repeats.toNat ≤ s.rep.toNat + 1)) :=
  ⟨⟨by decide, .inr ⟨by decide, by decide⟩, by decide, by decide⟩,
    by decide, .inr (lastOff_building _), by decide, by decide⟩

/-- The last unit of a gap, and an earlier one. -/
theorem witness_GapStartSendsOneGapUnit :
    (LastPulseOff (building .gapStart) ∧ (building .gapStart).st = .gapStart ∧ (building .gapStart).gr = 0) ∧
    LastPulseOff { building .gapStart with gr := 255 } :=
  ⟨⟨lastOff_building _, rfl, rfl⟩, by decide, by decide⟩

/-- REP + 1 = N, and REP + 1 just below N. -/
theorem witness_GapEndFinishesOrRestarts :
    ({ building .gapEnd with rep := 1 } : State).latch.repeats.toNat ≤
      ({ building .gapEnd with rep := 1 } : State).rep.toNat + 1 ∧
    ((building .gapEnd).rep.toNat + 1 < (building .gapEnd).latch.repeats.toNat ∧
      LastPulseOff (building .gapEnd)) := ⟨by decide, by decide, lastOff_building _⟩

theorem witness_IdleHasNoBuilderStep : State.reset.busy = false ∧ State.reset.heldOp = none ∧
    State.reset.inputs = [] := by decide

/-- All the hypotheses of `OnSegmentBeyondCapacityAborts` on an action and a state. -/
def AbortHypotheses (i : Instr) (s : State) : Prop :=
  SendsOnSegment i s ∧ ReadyForOn s ∧ s.pulseCount.toNat ≤ s.build.maxPulses.toNat ∧
    s.build.maxPulses.toNat < s.pulseCount.toNat + 2

/-- `building` with the pulse memory full. -/
def fullAt (st : BuilderState) : State := { building st with build := ⟨4, 2, 7, 72, 2⟩ }

/-- Each of the four actions with the pulse memory full; one with one free entry; the first of a build whose capacity
is one. -/
theorem witness_OnSegmentBeyondCapacityAborts :
    AbortHypotheses .stMessageStart (fullAt .messageStart) ∧ AbortHypotheses .stByteStart (fullAt .byteStart) ∧
    AbortHypotheses .stSendByte { fullAt .sendByte with bm := 0x08 } ∧
    AbortHypotheses .stMessageEnd (fullAt .messageEnd) ∧
    AbortHypotheses .stByteStart { building .byteStart with build := ⟨4, 2, 7, 72, 3⟩ } ∧
    AbortHypotheses .stMessageStart { State.reset with build := ⟨4, 2, 7, 72, 1⟩ } :=
  ⟨⟨.inl rfl, .inr ⟨by decide, by decide⟩, by decide, by decide⟩,
    ⟨.inr (.inl rfl), .inr ⟨by decide, by decide⟩, by decide, by decide⟩,
    ⟨.inr (.inr (.inr ⟨rfl, 0x09, by decide, by decide⟩)), .inr ⟨by decide, by decide⟩, by decide, by decide⟩,
    ⟨.inr (.inr (.inl rfl)), .inr ⟨by decide, by decide⟩, by decide, by decide⟩,
    ⟨.inr (.inl rfl), .inr ⟨by decide, by decide⟩, by decide, by decide⟩,
    .inl rfl, .inl (by decide), by decide, by decide⟩

/-- A merge at full capacity, an append just below it, a refused append. -/
theorem witness_AddPulseMergesAppendsOrAborts :
    (let s : State := { building .sendByte with build := ⟨4, 2, 7, 72, 2⟩ };
      0 < s.pulseCount.toNat ∧ ((pmemRead s 1).on, (pmemRead s 1).off) = masks s.latch .off ∧
      ((pmemRead s 1).on, (pmemRead s 1).off) ≠ masks s.latch .on ∧ s.pulseCount = s.build.maxPulses) ∧
    (let s : State := { building .sendByte with build := ⟨4, 2, 7, 72, 3⟩ };
      ((pmemRead s 1).on, (pmemRead s 1).off) ≠ masks s.latch .on ∧ s.pulseCount ≠ s.build.maxPulses) := by decide

theorem witness_MaskPairsOfThePin : (⟨31, 140, 1, 0, false, true⟩ : Latch).invert = false ∧
    (⟨0, 140, 1, 0, true, true⟩ : Latch).invert = true := by decide

/-! ### Witnesses: registers -/

theorem witness_RegisterWritesStoreTheirField : rwWidth .cmdAddrLo = some 32 ∧ rwWidth .cfgFlags = some 3 ∧
    rwWidth .op = none ∧ rwWidth .param1 = none ∧ (Reg.status ≠ Reg.pidx ∧ Reg.status ≠ .pOn ∧
    Reg.status ≠ .pOff ∧ Reg.status ≠ .pDurLo ∧ Reg.status ≠ .pDurHi) := by decide

/-- Reserved indices between, just past and far past the registers; the record of errors at reset. -/
theorem witness_ReservedIndicesAndBitsReadZero :
    (∀ r, regIndex r ≠ 0x07) ∧ (∀ r, regIndex r ≠ 0x32) ∧ (∀ r, regIndex r ≠ 0xFF) ∧ ErrorsLegal State.reset :=
  ⟨fun r => (by cases r <;> decide), fun r => (by cases r <;> decide), fun r => (by cases r <;> decide),
    by decide, by decide, by decide, by decide, by decide, by decide⟩

/-- The window at the last pulse and just past it; the last lane of each word of BUF. -/
theorem witness_ReadOnlyRegistersShowTheirState :
    ({ building .idle with pidx := 1 } : State).pidx.toNat < (building .idle).pulseCount.toNat ∧
    (building .idle).pulseCount.toNat ≤ ({ building .idle with pidx := 2 } : State).pidx.toNat ∧
    byteAt bufB 3 = some 0x01 ∧ byteAt bufB 7 = some 0x00 ∧ byteAt bufB 9 = some 0x02 := by decide

theorem witness_ReadsHaveNoSideEffect : State.reset.busy = false ∧ openDuringBuild .pidx = false ∧
    (building .sendByte).busy = true ∧ openDuringBuild .pOn = true := by decide

theorem witness_HostAccessesDoNotDisturbTheBuilder : IsBuilderRow .stMessageStart ∧ IsBuilderRow .stIdle :=
  ⟨.inl rfl, .inr (.inr (.inr (.inr (.inr (.inr rfl)))))⟩

/-! ### Witnesses: invariants -/

theorem legal_building : Legal (building .sendByte) :=
  ⟨by decide, by decide, fun _ => ⟨.inl rfl, by decide⟩, fun h => (by cases h), by decide, fun _ => by decide,
    fun h => (by cases h)⟩

theorem stepped_building : step (building .sendByte) = .next (nextOf (step (building .sendByte))) := rfl

theorem witness_StepKeepsLegal : Legal (building .sendByte) ∧
    step (building .sendByte) = .next (nextOf (step (building .sendByte))) := ⟨legal_building, stepped_building⟩

theorem witness_StepKeepsPmemCanonical : Legal (building .sendByte) ∧ PmemCanonical (building .sendByte) ∧
    step (building .sendByte) = .next (nextOf (step (building .sendByte))) :=
  ⟨legal_building, by unfold PmemCanonical; decide, stepped_building⟩

theorem witness_StepKeepsWaveformLegal : Legal (building .sendByte) ∧ WaveformLegal (building .sendByte) ∧
    step (building .sendByte) = .next (nextOf (step (building .sendByte))) :=
  ⟨legal_building, ⟨by decide, by decide, by decide, by decide, by decide, fun _ _ => by decide⟩, stepped_building⟩

theorem witness_StepKeepsErrorsLegal : ErrorsLegal (building .sendByte) ∧
    step (building .sendByte) = .next (nextOf (step (building .sendByte))) :=
  ⟨⟨by decide, by decide, by decide, by decide, by decide, by decide⟩, stepped_building⟩

theorem witness_StepKeepsDecodeOutputsLegal : DecodeOutputsLegal (building .sendByte) ∧
    step (building .sendByte) = .next (nextOf (step (building .sendByte))) :=
  ⟨by unfold DecodeOutputsLegal; decide, stepped_building⟩

theorem witness_LegalStateNeverStops : Legal (building .sendByte) := legal_building

theorem witness_StickyBitsOnlyGrow :
    exec (.illegal06to07 1 0) State.reset = .next (nextOf (exec (.illegal06to07 1 0) State.reset)) ∧
    (∀ rest, (building .sendByte).inputs ≠ .reset :: rest) ∧
    step (building .sendByte) = .next (nextOf (step (building .sendByte))) :=
  ⟨rfl, fun rest h => (by cases h), stepped_building⟩

theorem witness_BufferChangesOnlyByLoadbufOrEncode : ¬ MayWriteBuf (.decode 0) ∧ (loaded bufB).bufValid = true ∧
    exec (.decode 0) (loaded bufB) = .next (nextOf (exec (.decode 0) (loaded bufB))) :=
  ⟨fun h => h, rfl, rfl⟩

theorem witness_EachGroupOfStateHasItsWriters : ¬ IsBuilderRow (.loadbuf 0) ∧ (∀ ign, Instr.loadbuf 0 ≠ .build ign) ∧
    exec (.loadbuf 0) State.reset = .next (nextOf (exec (.loadbuf 0) State.reset)) :=
  ⟨by unfold IsBuilderRow; decide, fun ign h => (by cases h), rfl⟩

/-! ### Witnesses: whole builds -/

theorem ready_readyZero : ReadyToBuild readyZero :=
  ⟨rfl, rfl, rfl, rfl, by decide, by decide, by decide⟩

/-- `readyZero` with host accesses to come while the build runs: a STATUS read, CFG writes, a turn, an OP write (a
PUSHB, held until the build ends). -/
def readyAmid : State :=
  { readyZero with inputs := [.read 0x01, .write 0x1A 3, .turn, .write 0x18 7, .write 0x00 0x00000901] }

/-- The block right after the BUILD of `readyAmid`. -/
def startedAmid : State := nextOf (exec (.build 0) readyAmid)

/-- Whether an answer is a next state. -/
def isNext (r : Host.Outcome State Fault Refusal) : Bool :=
  match r with
  | .next _ => true
  | .fault _ => false
  | .refused _ => false

theorem eq_next_of_isNext (r : Host.Outcome State Fault Refusal) (h : isNext r = true) : r = .next (nextOf r) := by
  cases r with
  | next s => rfl
  | fault r => cases h
  | refused r => cases h

theorem passes_readyAmid : PassesBuildChecks readyAmid := ⟨rfl, rfl, by decide, by decide, by decide⟩

theorem started_readyAmid : exec (.build 0) readyAmid = .next startedAmid :=
  eq_next_of_isNext _ (by decide)

/-- BUSY in the first `n` states of a run. -/
def busyTrace : Nat → State → List Bool
  | 0, _ => []
  | n + 1, s => s.busy :: busyTrace n (nextOf (step s))

/-- The trace shows BUSY of every state that the run reaches. -/
theorem busyTrace_of_run (n i : Nat) (s u : State) (hi : i < n) (hr : core.run i s = .next u) :
    (busyTrace n s)[i]? = some u.busy := by
  induction i generalizing n s with
  | zero =>
    cases n with
    | zero => omega
    | succ n => cases hr; rfl
  | succ i ih =>
    cases n with
    | zero => omega
    | succ n =>
      simp only [Host.Core.run] at hr
      split at hr
      · rename_i s' hs
        have hs' : step s = .next s' := hs
        have := ih n s' (by omega) hr
        simpa [busyTrace, hs', nextOf] using this
      · cases hr
      · cases hr

/-- The shortest build there is, 92 builder steps and 24 pulses (43_waveform.md R240, R242), amid four host accesses:
BUSY for 96 steps, then the waveform is there and one step more runs the held PUSHB. -/
theorem finished_readyAmid : busyTrace 98 startedAmid = List.replicate 96 true ++ [false, false] ∧
    isNext (core.run 97 startedAmid) = true ∧ (nextOf (core.run 97 startedAmid)).waveValid = true ∧
    (nextOf (core.run 97 startedAmid)).pulseCount = 24 ∧
    (nextOf (core.run 97 startedAmid)).stageLen = 1 := by decide +kernel

theorem oneBuild_readyAmid : NoSecondBuild 97 startedAmid := by
  intro i j u v hij hj hu hv hb
  have hu' := busyTrace_of_run 98 i _ _ (by omega) hu
  have hv' := busyTrace_of_run 98 j _ _ (by omega) hv
  rw [finished_readyAmid.1] at hu' hv'
  have hi : ¬ i < 96 := by
    intro hlt
    rw [List.getElem?_append_left (by rwa [List.length_replicate]), List.getElem?_replicate, if_pos hlt, hb] at hu'
    cases hu'
  have : j = 96 ∨ j = 97 := by omega
  rcases this with rfl | rfl <;> simpa using hv'.symm

theorem witness_FinishedBuildHasSpecPulsesAndTicks : PassesBuildChecks readyAmid ∧
    exec (.build 0) readyAmid = .next startedAmid ∧ NoSecondBuild 97 startedAmid ∧
    core.run 97 startedAmid = .next (nextOf (core.run 97 startedAmid)) ∧
    (nextOf (core.run 97 startedAmid)).waveValid = true :=
  ⟨passes_readyAmid, started_readyAmid, oneBuild_readyAmid, eq_next_of_isNext _ finished_readyAmid.2.1,
    finished_readyAmid.2.2.1⟩

theorem witness_FinishedBuildMatchesTheTickSequence : PassesBuildChecks readyAmid ∧
    exec (.build 0) readyAmid = .next startedAmid ∧ NoSecondBuild 97 startedAmid ∧
    core.run 97 startedAmid = .next (nextOf (core.run 97 startedAmid)) ∧
    (nextOf (core.run 97 startedAmid)).waveValid = true := witness_FinishedBuildHasSpecPulsesAndTicks

/-- A capacity that the build just fits. -/
theorem witness_BuildWithinCapacityFinishesInSpecSteps :
    let s : State := { readyZero with build := ⟨4, 2, 7, 72, 24⟩ };
    ReadyToBuild s ∧ specPulses s ≤ s.build.maxPulses.toNat :=
  ⟨⟨rfl, rfl, rfl, rfl, by decide, by decide, by decide⟩, by decide⟩

/-- One entry too few. -/
theorem witness_BuildBeyondCapacityAborts :
    let s : State := { readyZero with build := ⟨4, 2, 7, 72, 23⟩ };
    ReadyToBuild s ∧ s.build.maxPulses.toNat < specPulses s :=
  ⟨⟨rfl, rfl, rfl, rfl, by decide, by decide, by decide⟩, by decide⟩

theorem witness_BusyEndsWithinTheStepBound : Legal (building .sendByte) ∧ (building .sendByte).busy = true ∧
    (building .sendByte).inputs = [] := ⟨legal_building, rfl, rfl⟩

/-- A capacity that the build just fits, and one entry too few, both amid host accesses. -/
theorem witness_BuildEndsWhateverTheHostDoes :
    (let s : State := { readyAmid with build := ⟨4, 2, 7, 72, 24⟩ };
      PassesBuildChecks s ∧ .reset ∉ s.inputs ∧ specPulses s ≤ s.build.maxPulses.toNat) ∧
    (let s : State := { readyAmid with build := ⟨4, 2, 7, 72, 23⟩ };
      PassesBuildChecks s ∧ .reset ∉ s.inputs ∧ s.build.maxPulses.toNat < specPulses s) :=
  ⟨⟨⟨rfl, rfl, by decide, by decide, by decide⟩, by decide, by decide⟩,
    ⟨rfl, rfl, by decide, by decide, by decide⟩, by decide, by decide⟩

end Sys2Proof.Tests
end

/-! ## What an instruction and a step can do

One inversion for the operations, one for the builder rows, one for the step. Every invariant below is a case
analysis of these. -/

namespace Sys2Proof.Machine

open Sys2Proof.Claims

/-! ### Pulses and segments -/

/-- `t` is `s` after zero or more pulses of `add_pulse`, each merged or appended below the capacity
(43_waveform.md R230). -/
inductive Pulsed (s : State) : State → Prop where
  | none : Pulsed s s
  | merged {u : State} {lvl : Level} {d : BitVec 64} :
      Pulsed s u → merges lvl u = true → Pulsed s (mergePulse d u)
  | appended {u : State} {lvl : Level} {d : BitVec 64} :
      Pulsed s u → u.pulseCount ≠ u.build.maxPulses → Pulsed s (appendPulse lvl d u)

/-- Pulses change PMEM, PULSE_COUNT and TOTAL and nothing else. -/
theorem Pulsed.frame {s t : State} (h : Pulsed s t) :
    t = { s with pmem := t.pmem, pulseCount := t.pulseCount, total := t.total } := by
  induction h with
  | none => rfl
  | merged _ _ ih => rw [ih]; rfl
  | appended _ _ ih => rw [ih]; rfl

/-- An `add_pulse` that goes on adds one pulse to those before it. -/
theorem Pulsed.addPulse_went {s u v : State} {lvl : Level} {d : BitVec 64} (h : Pulsed s u)
    (he : addPulse lvl d u = .went v) : Pulsed s v := by
  obtain ⟨hm, e⟩ | ⟨_, _, e⟩ | ⟨_, hc, e⟩ := addPulse_cases lvl d u <;> cases e.symm.trans he
  · exact h.merged hm
  · exact h.appended hc

/-- What a segment leaves: some pulses more, or the capacity abort after some pulses (43_waveform.md R229). -/
def Emits (s : State) : Emit → Prop
  | .went u => Pulsed s u
  | .aborted a => ∃ u, Pulsed s u ∧ a = capacityAbort u

theorem Pulsed.addPulse_emits {s u : State} (h : Pulsed s u) (lvl : Level) (d : BitVec 64) :
    Emits s (addPulse lvl d u) := by
  cases he : addPulse lvl d u with
  | went v => exact h.addPulse_went he
  | aborted a => exact ⟨u, h, (addPulse_aborted lvl d u a he).2⟩

theorem segOff_emits (c : Nat) (s : State) : Emits s (segOff c s) :=
  Pulsed.none.addPulse_emits _ _

theorem segOn_emits (c : Nat) (s : State) : Emits s (segOn c s) := by
  obtain ⟨a, ha, e⟩ | ⟨m, hm, e⟩ := segOn_cases c s
  · rw [e, ← ha]
    exact Pulsed.none.addPulse_emits _ _
  · rw [e]
    exact (Pulsed.none.addPulse_went hm).addPulse_emits _ _

theorem Emits.of_went {s u : State} {e : Emit} (h : Emits s e) (he : e = .went u) : Pulsed s u := by
  subst he
  exact h

theorem segOn_went {c : Nat} {s u : State} (h : segOn c s = .went u) : Pulsed s u :=
  Emits.of_went (segOn_emits c s) h

theorem segOff_went {c : Nat} {s u : State} (h : segOff c s = .went u) : Pulsed s u :=
  Emits.of_went (segOff_emits c s) h

/-- A builder step that answers: its segment went on to the rest of the row, or was aborted. -/
theorem thenStep_cases {e : Emit} {k : State → State} {t : State} (h : thenStep e k = .next t) :
    (∃ u, e = .went u ∧ t = k u) ∨ e = .aborted t := by
  cases e with
  | went u => cases h; exact .inl ⟨u, rfl, rfl⟩
  | aborted a => cases h; exact .inr rfl

/-! ### The builder rows -/

/-- The segment SendByte sends for a bit of the byte `b` (43_waveform.md R224). -/
def bitSegment (b : Byte) (s : State) : Emit :=
  if b &&& s.bm ≠ 0 then segOn s.build.highCount.toNat s else segOff s.build.lowCount.toNat s

theorem bitSegment_emits (b : Byte) (s : State) : Emits s (bitSegment b s) := by
  unfold bitSegment
  split
  · exact segOn_emits _ _
  · exact segOff_emits _ _

theorem bitSegment_went {b : Byte} {s u : State} (h : bitSegment b s = .went u) : Pulsed s u :=
  Emits.of_went (bitSegment_emits b s) h

/-- What a row writes before it sends its segment (43_waveform.md R222, R223, R227). -/
def segmentStart : Instr → State → State
  | .stMessageStart, s => { s with bi := 0 }
  | .stByteStart, s => { s with bm := 0x80 }
  | .stGapEnd, s => { s with rep := s.rep + 1 }
  | _, s => s

/-- Everything a builder row can do (43_waveform.md R222 to R229). -/
inductive BuilderEffect (s : State) : Instr → State → Prop where
  | idle : BuilderEffect s .stIdle s
  | messageStart {u : State} :
      segOn s.build.highCount.toNat { s with bi := 0 } = .went u →
      BuilderEffect s .stMessageStart { u with st := .byteStart }
  | byteStart {u : State} :
      segOn s.build.highCount.toNat { s with bm := 0x80 } = .went u →
      BuilderEffect s .stByteStart { u with st := .sendByte }
  | sendByte {b : Byte} {u : State} :
      byteAt s.txbuf s.bi.toNat = some b → bitSegment b s = .went u →
      BuilderEffect s .stSendByte (nextBit u)
  | messageEnd {u : State} :
      segOn s.build.highCount.toNat s = .went u → BuilderEffect s .stMessageEnd (afterMessage u)
  | gapStart {u : State} :
      segOff s.build.gapCount.toNat s = .went u → BuilderEffect s .stGapStart (afterGapUnit u)
  | finished :
      s.latch.repeats.toNat ≤ s.rep.toNat + 1 →
      BuilderEffect s .stGapEnd (finish { s with rep := s.rep + 1 })
  | restarted {u : State} :
      s.rep.toNat + 1 < s.latch.repeats.toNat →
      segOff s.build.highCount.toNat { s with rep := s.rep + 1 } = .went u →
      BuilderEffect s .stGapEnd { u with st := .messageStart }
  | aborted {i : Instr} {u : State} :
      IsBuilderRow i → Pulsed (segmentStart i s) u → BuilderEffect s i (capacityAbort u)

/-- A builder row whose segment is aborted has the abort's effect. -/
theorem BuilderEffect.of_aborted {s t : State} {i : Instr} {e : Emit} (hrow : IsBuilderRow i)
    (hemits : Emits (segmentStart i s) e) (he : e = .aborted t) : BuilderEffect s i t := by
  subst he
  obtain ⟨u, hu, rfl⟩ := hemits
  exact .aborted hrow hu

/-- The inversion of the builder rows. -/
theorem exec_builderEffect {i : Instr} {s t : State} (hrow : IsBuilderRow i) (h : exec i s = .next t) :
    BuilderEffect s i t := by
  have hab {e : Emit} := BuilderEffect.of_aborted (s := s) (t := t) (e := e) hrow
  obtain rfl | rfl | rfl | rfl | rfl | rfl | rfl := hrow
  · obtain ⟨u, hu, rfl⟩ | ha := thenStep_cases h
    · exact .messageStart hu
    · exact hab (segOn_emits _ _) ha
  · obtain ⟨u, hu, rfl⟩ | ha := thenStep_cases h
    · exact .byteStart hu
    · exact hab (segOn_emits _ _) ha
  · simp only [exec, execStSendByte] at h
    split at h
    · cases h
    · next b hb =>
      obtain ⟨u, hu, rfl⟩ | ha := thenStep_cases h
      · exact .sendByte hb hu
      · exact hab (bitSegment_emits b s) ha
  · obtain ⟨u, hu, rfl⟩ | ha := thenStep_cases h
    · exact .messageEnd hu
    · exact hab (segOn_emits _ _) ha
  · obtain ⟨u, hu, rfl⟩ | ha := thenStep_cases h
    · exact .gapStart hu
    · exact hab (segOff_emits _ _) ha
  · simp only [exec, execStGapEnd] at h
    split at h
    · next hn => cases h; exact .finished hn
    · next hn =>
      obtain ⟨u, hu, rfl⟩ | ha := thenStep_cases h
      · exact .restarted (by omega) hu
      · exact hab (segOff_emits _ _) ha
  · cases h
    exact .idle

/-! ### The operations -/

/-- Everything an instruction that is no builder row can do: an operation word, or a row that ENCODE or DECODE
selects. -/
inductive OpEffect (s : State) : Instr → State → Prop where
  | unchanged {ign : BitVec 24} : OpEffect s (.nop ign) s
  | held {i : Instr} {w : Word} : s.busy = true → OpEffect s i { s with heldOp := some w }
  | staged {imm : Byte} {ign : BitVec 16} : OpEffect s (.pushb imm ign) (pushByte imm s)
  | loaded {ign : BitVec 24} : OpEffect s (.loadbuf ign) (loadBuffer s)
  | illegal {i : Instr} {o : Byte} : OpEffect s i (illegal o s)
  | encoded {i : Instr} {cls p : Byte} : MayWriteBuf i → OpEffect s i (encodeWith cls p s)
  | encodeFailed {i : Instr} {k : Byte} : OpEffect s i (raise .encoding k 0 0 .idle s)
  | decoded {i : Instr} {cls p value : Byte} {kind : BitVec 4} :
      kind.toNat ≤ 7 → OpEffect s i (decodeOk cls p kind value s)
  | decodeFailed {i : Instr} {cls p : Byte} : OpEffect s i (decodeFail cls p s)
  | noBuffer {i : Instr} : OpEffect s i (raise .validation 0 0 4 .idle s)
  | built {ign : BitVec 24} : s.busy = false → OpEffect s (.build ign) (buildWave s)

/-- An issued operation runs with BUSY 0 or is held (20_memory.md R64). -/
theorem issue_cases {w : Word} {s t : State} {op : State → Result} (h : issue w s op = .next t) :
    (s.busy = true ∧ t = { s with heldOp := some w }) ∨ (s.busy = false ∧ op s = .next t) := by
  obtain hb | hb := Bool.eq_false_or_eq_true s.busy
  · rw [issue_busy w s op hb] at h
    cases h
    exact .inl ⟨hb, rfl⟩
  · rw [issue_idle w s op hb] at h
    exact .inr ⟨hb, h⟩

theorem OpEffect.of_issue {w : Word} {s t : State} {op : State → Result} {i : Instr}
    (h : issue w s op = .next t) (hop : s.busy = false → op s = .next t → OpEffect s i t) :
    OpEffect s i t := by
  obtain ⟨hb, rfl⟩ | ⟨hb, h⟩ := issue_cases h
  · exact .held hb
  · exact hop hb h

/-- ENCODE writes the buffer, or records an EncodingError for an unmapped kind (41_codec.md R140, R149). -/
theorem OpEffect.of_encodeByKind {s t : State} {i : Instr} (hi : MayWriteBuf i)
    (h : encodeByKind s = .next t) : OpEffect s i t := by
  unfold encodeByKind at h
  split_ifs at h <;> cases h
  on_goal 9 => exact .encodeFailed
  all_goals exact .encoded hi

theorem OpEffect.of_classify0 {p : Byte} {s t : State} {i : Instr} (h : classify0 p s = .next t) :
    OpEffect s i t := by
  unfold classify0 at h
  split_ifs at h <;> cases h <;> exact .decoded (by decide)

theorem OpEffect.of_classify1 {p : Byte} {s t : State} {i : Instr} (h : classify1 p s = .next t) :
    OpEffect s i t := by
  unfold classify1 at h
  split_ifs at h <;> cases h <;> exact .decoded (by decide)

theorem OpEffect.of_classify2 {p : Byte} {s t : State} {i : Instr} (h : classify2 p s = .next t) :
    OpEffect s i t := by
  unfold classify2 at h
  split_ifs at h <;> cases h
  · exact .decodeFailed
  · exact .decoded (by decide)
  · exact .decoded (by decide)

theorem OpEffect.of_classifyOther {cls p : Byte} {s t : State} {i : Instr}
    (h : classifyOther cls p s = .next t) : OpEffect s i t := by
  unfold classifyOther at h
  split_ifs at h <;> cases h <;> exact .decodeFailed

/-- DECODE has no buffer, or answers as its class does (41_codec.md R161). -/
theorem OpEffect.of_decodeBuffer {s t : State} {i : Instr} (h : decodeBuffer s = .next t) :
    OpEffect s i t := by
  unfold decodeBuffer at h
  split_ifs at h
  · cases h
    exact .noBuffer
  · exact .of_classify0 h
  · exact .of_classify1 h
  · exact .of_classify2 h
  · exact .of_classifyOther h

/-- The inversion of the instructions that are no builder row. -/
theorem exec_opEffect {i : Instr} {s t : State} (hrow : ¬ IsBuilderRow i) (h : exec i s = .next t) :
    OpEffect s i t := by
  cases i <;> simp only [exec] at h
  case nop => exact .of_issue h fun _ e => by cases e; exact .unchanged
  case pushb => exact .of_issue h fun _ e => by cases e; exact .staged
  case loadbuf => exact .of_issue h fun _ e => by cases e; exact .loaded
  case encode => exact .of_issue h fun _ e => .of_encodeByKind trivial e
  case decode => exact .of_issue h fun _ e => .of_decodeBuffer e
  case build => exact .of_issue h fun hb e => by cases e; exact .built hb
  case illegal06to07 | illegal08to0F | illegal10to1F | illegal20to3F | illegal40to7F | illegal80toFF =>
    exact .of_issue h fun _ e => by cases e; exact .illegal
  case encOn | encOff | encDim | encIncrease | encDecrease | encMood | encAllOn | encAllOff =>
    cases h
    exact .encoded trivial
  case encUnmapped =>
    cases h
    exact .encodeFailed
  case d0Off | d0Dim | d0Decrease | d0AllOff | d1On | d1Dim32 | d1Dim64 | d1Dim96 | d1Dim128 | d1Increase |
      d1AllOn192 | d1AllOn224 | d2MoodLo | d2MoodHi =>
    cases h
    exact .decoded (by decide)
  case d2Err | dxErr03 | dxErr04to07 | dxErr08to0F | dxErr10to1F | dxErr20to3F | dxErr40to7F | dxErr80toFF =>
    cases h
    exact .decodeFailed
  case stMessageStart | stByteStart | stSendByte | stMessageEnd | stGapStart | stGapEnd | stIdle =>
    exact absurd (by simp [IsBuilderRow]) hrow

/-- Everything an instruction can do. -/
theorem exec_cases {i : Instr} {s t : State} (h : exec i s = .next t) :
    (IsBuilderRow i ∧ BuilderEffect s i t) ∨ (¬ IsBuilderRow i ∧ OpEffect s i t) := by
  by_cases hrow : IsBuilderRow i
  · exact .inl ⟨hrow, exec_builderEffect hrow h⟩
  · exact .inr ⟨hrow, exec_opEffect hrow h⟩

/-- LOADBUF records a length error or commits the staged bytes; the frame is consumed either way
(40_buffer_ops.md R123). -/
theorem loadBuffer_cases (s : State) :
    loadBuffer s = raise .validation s.stageLen 0 1 .idle { s with stageLen := 0 } ∨
      loadBuffer s = succeed { s with stageLen := 0, buf := s.stage, bufValid := true } := by
  simp only [loadBuffer]
  split_ifs
  · exact .inl rfl
  · exact .inr rfl

/-- BUILD clears the waveform, then records what fails a check, or starts with a repeat count that is not 0
(43_waveform.md R210, R211). -/
theorem buildWave_cases (s : State) :
    (∃ sub, buildWave s = raise .validation 0 0 sub .idle (clearWave s)) ∨
      (s.cfgRepeats ≠ 0 ∧ buildWave s = startBuild (clearWave s)) := by
  simp only [buildWave]
  split_ifs with _ hrep
  · exact .inl ⟨4, rfl⟩
  · exact .inl ⟨2, rfl⟩
  · exact .inl ⟨3, rfl⟩
  · exact .inr ⟨hrep, rfl⟩

/-! ### The step -/

/-- An operation word is never a builder row (30_encoding.md R84, R89). -/
theorem decodeOp_not_builderRow (w : Word) : ¬ IsBuilderRow (decodeOp w) := by
  unfold decodeOp
  extract_lets
  repeat' refine iteInduction (motive := fun i => ¬ IsBuilderRow i) (fun _ => ?_) fun _ => ?_
  all_goals simp [IsBuilderRow]

/-- Everything a step can do (20_memory.md R68). -/
inductive StepEffect (s : State) : State → Prop where
  | builder {rest : List Input} {t : State} :
      exec (builderInstr s) { s with inputs := rest } = .next t → StepEffect s t
  | operation {w : Word} {held : Option Word} {rest : List Input} {t : State} :
      exec (decodeOp w) { s with heldOp := held, inputs := rest } = .next t → StepEffect s t
  | reset {rest : List Input} :
      s.inputs = .reset :: rest → StepEffect s (applyReset { s with inputs := rest })
  | read {idx : BitVec 8} {rest : List Input} : StepEffect s (hostRead idx { s with inputs := rest })
  | write {idx : BitVec 8} {v : Word} {rest : List Input} :
      StepEffect s (hostWrite idx v { s with inputs := rest })

theorem takeTurn_eq (s : State) : ∃ rest, takeTurn s = { s with inputs := rest } := by
  unfold takeTurn
  split
  · exact ⟨_, rfl⟩
  · exact ⟨s.inputs, rfl⟩

/-- What is to be shown of an answer of `fetch`: the step it leads to does what a step can do. -/
def FetchEffect (s : State) : Fetched → Prop
  | .instr i s' => ∀ t, exec i s' = .next t → StepEffect s t
  | .done s' => StepEffect s s'

theorem fetchInput_effect (s : State) : FetchEffect s (fetchInput s) := by
  unfold fetchInput
  split
  · exact fun t h => .builder (rest := s.inputs) h
  · exact fun t h => .builder h
  · next h => exact .reset h
  · exact .read
  · split
    · exact fun t h => .operation (held := s.heldOp) h
    · exact .write

theorem fetchHeld_effect (w : Word) (s : State) : FetchEffect s (fetchHeld w s) := by
  unfold fetchHeld
  split
  · next h => exact .reset h
  · split
    · obtain ⟨rest, e⟩ := takeTurn_eq s
      rw [e]
      exact fun t h => .builder h
    · exact fun t h => .operation (rest := s.inputs) h

theorem fetch_effect (s : State) : FetchEffect s (fetch s) := by
  unfold fetch
  split
  · exact fetchHeld_effect _ s
  · exact fetchInput_effect s

/-- The inversion of the step. -/
theorem step_effect {s t : State} (h : step s = .next t) : StepEffect s t := by
  have hf := fetch_effect s
  obtain ⟨i, s', e, hs⟩ | ⟨s', e, hs⟩ := step_cases s <;> rw [e] at hf
  · exact hf t (hs.symm.trans h)
  · cases hs.symm.trans h
    exact hf

end Sys2Proof.Machine

/-! ## Frames: what an instruction leaves unchanged -/

namespace Sys2Proof.Machine

open Sys2Proof.Claims

/-- The fields that the host writes, and the build constants, are the same (10_state.md R23, R43). -/
structure HostFrame (s t : State) : Prop where
  cmdKind : t.cmdKind = s.cmdKind
  cmdValue : t.cmdValue = s.cmdValue
  cmdDevice : t.cmdDevice = s.cmdDevice
  cmdAddr : t.cmdAddr = s.cmdAddr
  cmdRoom : t.cmdRoom = s.cmdRoom
  cfgPin : t.cfgPin = s.cfgPin
  cfgPeriod : t.cfgPeriod = s.cfgPeriod
  cfgRepeats : t.cfgRepeats = s.cfgRepeats
  cfgGapMult : t.cfgGapMult = s.cfgGapMult
  cfgFlags : t.cfgFlags = s.cfgFlags
  pidx : t.pidx = s.pidx
  build : t.build = s.build

/-- The fields that BUILD and the builder rows write, and the build constants they read, are the same (10_state.md R39,
R41, R48, R49). -/
structure BuilderFrame (s t : State) : Prop where
  pmem : t.pmem = s.pmem
  pmemEpoch : t.pmemEpoch = s.pmemEpoch
  pulseCount : t.pulseCount = s.pulseCount
  total : t.total = s.total
  waveValid : t.waveValid = s.waveValid
  busy : t.busy = s.busy
  st : t.st = s.st
  bi : t.bi = s.bi
  bm : t.bm = s.bm
  rep : t.rep = s.rep
  gr : t.gr = s.gr
  txbuf : t.txbuf = s.txbuf
  latch : t.latch = s.latch
  build : t.build = s.build

/-- `t` is `s` but for the waveform, the builder's state and the error record: all that a builder row may write. -/
def BuilderOnly (s t : State) : Prop :=
  t = { s with
    pmem := t.pmem, pmemEpoch := t.pmemEpoch, pulseCount := t.pulseCount, total := t.total
    waveValid := t.waveValid, busy := t.busy, st := t.st, bi := t.bi, bm := t.bm, rep := t.rep, gr := t.gr
    lastErr := t.lastErr, errInfo := t.errInfo, sticky := t.sticky }

theorem BuilderOnly.trans {s t u : State} (hst : BuilderOnly s t) (htu : BuilderOnly t u) : BuilderOnly s u := by
  unfold BuilderOnly
  conv_lhs => rw [htu, hst]

/-- `t` is `s` but for the builder's state: all that a builder row writes beside its segment. -/
def ControlOnly (s t : State) : Prop :=
  t = { s with
    waveValid := t.waveValid, busy := t.busy, st := t.st, bi := t.bi, bm := t.bm, rep := t.rep, gr := t.gr }

theorem ControlOnly.builderOnly {s t : State} (h : ControlOnly s t) : BuilderOnly s t := by
  rw [h]
  rfl

theorem Pulsed.builderOnly {s t : State} (h : Pulsed s t) : BuilderOnly s t := by
  rw [h.frame]
  rfl

theorem segmentStart_controlOnly (i : Instr) (s : State) : ControlOnly s (segmentStart i s) := by
  unfold segmentStart
  split <;> rfl

theorem nextBit_controlOnly (s : State) : ControlOnly s (nextBit s) := by
  simp only [nextBit]
  split <;> rfl

theorem afterMessage_controlOnly (s : State) : ControlOnly s (afterMessage s) := by
  unfold afterMessage
  split <;> rfl

theorem afterGapUnit_controlOnly (s : State) : ControlOnly s (afterGapUnit s) := by
  unfold afterGapUnit
  split <;> rfl

/-- Every builder row writes its own state, sends pulses, and writes its own state again or is aborted. -/
theorem BuilderEffect.shape {s t : State} {i : Instr} (h : BuilderEffect s i t) :
    ∃ s₀ u, ControlOnly s s₀ ∧ Pulsed s₀ u ∧ (ControlOnly u t ∨ t = capacityAbort u) := by
  cases h with
  | idle => exact ⟨s, s, rfl, .none, .inl rfl⟩
  | messageStart hu => exact ⟨{ s with bi := 0 }, _, rfl, segOn_went hu, .inl rfl⟩
  | byteStart hu => exact ⟨{ s with bm := 0x80 }, _, rfl, segOn_went hu, .inl rfl⟩
  | sendByte _ hu => exact ⟨s, _, rfl, bitSegment_went hu, .inl (nextBit_controlOnly _)⟩
  | messageEnd hu => exact ⟨s, _, rfl, segOn_went hu, .inl (afterMessage_controlOnly _)⟩
  | gapStart hu => exact ⟨s, _, rfl, segOff_went hu, .inl (afterGapUnit_controlOnly _)⟩
  | finished => exact ⟨s, s, rfl, .none, .inl rfl⟩
  | restarted _ hu => exact ⟨{ s with rep := s.rep + 1 }, _, rfl, segOff_went hu, .inl rfl⟩
  | aborted _ hu => exact ⟨_, _, segmentStart_controlOnly i s, hu, .inr rfl⟩

/-- The frame of the builder rows. -/
theorem BuilderEffect.builderOnly {s t : State} {i : Instr} (h : BuilderEffect s i t) : BuilderOnly s t := by
  obtain ⟨s₀, u, hstart, hpulses, hend | rfl⟩ := h.shape
  · exact hstart.builderOnly.trans (hpulses.builderOnly.trans hend.builderOnly)
  · exact hstart.builderOnly.trans (hpulses.builderOnly.trans rfl)

theorem BuilderOnly.hostFrame {s t : State} (h : BuilderOnly s t) : HostFrame s t := by
  rw [h]
  constructor <;> rfl

theorem BuilderOnly.buf {s t : State} (h : BuilderOnly s t) : t.buf = s.buf ∧ t.bufValid = s.bufValid := by
  rw [h]
  exact ⟨rfl, rfl⟩

theorem OpEffect.hostFrame {s t : State} {i : Instr} (h : OpEffect s i t) : HostFrame s t := by
  cases h with
  | loaded => obtain e | e := loadBuffer_cases s <;> rw [e] <;> constructor <;> rfl
  | built => obtain ⟨sub, e⟩ | ⟨_, e⟩ := buildWave_cases s <;> rw [e] <;> constructor <;> rfl
  | _ => constructor <;> rfl

/-- No operation but BUILD touches the waveform or the builder. -/
theorem OpEffect.builderFrame_or_built {s t : State} {i : Instr} (h : OpEffect s i t) :
    BuilderFrame s t ∨ (∃ ign, i = .build ign) ∧ s.busy = false ∧ t = buildWave s := by
  cases h with
  | built hb => exact .inr ⟨⟨_, rfl⟩, hb, rfl⟩
  | loaded => left; obtain e | e := loadBuffer_cases s <;> rw [e] <;> constructor <;> rfl
  | _ => left; constructor <;> rfl

/-- No instruction writes the host's registers or the build constants. -/
theorem exec_hostFrame {i : Instr} {s t : State} (h : exec i s = .next t) : HostFrame s t := by
  obtain ⟨_, he⟩ | ⟨_, he⟩ := exec_cases h
  · exact he.builderOnly.hostFrame
  · exact he.hostFrame

/-- Settles O54, by the frame of every instruction and the frame of the operations. -/
theorem eachGroupOfStateHasItsWriters : Obligations.EachGroupOfStateHasItsWriters := by
  intro i s t h
  obtain ⟨hkind, hvalue, hdevice, haddr, hroom, hpin, hperiod, hrepeats, hgap, hflags, hpidx, hbuild⟩ :=
    exec_hostFrame h
  refine ⟨hkind, hvalue, hdevice, haddr, hroom, hpin, hperiod, hrepeats, hgap, hflags, hpidx, hbuild, ?_⟩
  intro hrow hi
  obtain hframe | ⟨⟨ign, rfl⟩, _⟩ := (exec_opEffect hrow h).builderFrame_or_built
  · obtain ⟨hpmem, hepoch, hcount, htotal, hwave, hbusy, hst, hbi, hbm, hrep, hgr, htx, hlatch, _⟩ := hframe
    exact ⟨hpmem, hepoch, hcount, htotal, hwave, hbusy, hst, hbi, hbm, hrep, hgr, htx, hlatch⟩
  · exact absurd rfl (hi ign)

/-! ### The wire buffer -/

/-- Only LOADBUF, ENCODE and its rows write BUF or BUF_VALID. -/
theorem OpEffect.buf_of_not_mayWriteBuf {s t : State} {i : Instr} (h : OpEffect s i t) (hi : ¬ MayWriteBuf i) :
    t.buf = s.buf ∧ t.bufValid = s.bufValid := by
  cases h with
  | loaded => exact absurd trivial hi
  | encoded hw => exact absurd hw hi
  | built => obtain ⟨sub, e⟩ | ⟨_, e⟩ := buildWave_cases s <;> rw [e] <;> exact ⟨rfl, rfl⟩
  | _ => exact ⟨rfl, rfl⟩

/-- No operation clears BUF_VALID. -/
theorem OpEffect.bufValid {s t : State} {i : Instr} (h : OpEffect s i t) (hv : s.bufValid = true) :
    t.bufValid = true := by
  by_cases hi : MayWriteBuf i
  · cases h with
    | loaded =>
      obtain e | e := loadBuffer_cases s <;> rw [e]
      · exact hv
      · rfl
    | encoded => rfl
    | built => exact hi.elim
    | _ => exact hv
  · exact (h.buf_of_not_mayWriteBuf hi).2.trans hv

/-- A register write stores in the host's registers and nowhere else (10_state.md R23). -/
theorem hostWrite_frame (idx : BitVec 8) (v : Word) (s : State) :
    hostWrite idx v s = { s with
      cmdKind := (hostWrite idx v s).cmdKind, cmdValue := (hostWrite idx v s).cmdValue
      cmdDevice := (hostWrite idx v s).cmdDevice, cmdAddr := (hostWrite idx v s).cmdAddr
      cmdRoom := (hostWrite idx v s).cmdRoom, cfgPin := (hostWrite idx v s).cfgPin
      cfgPeriod := (hostWrite idx v s).cfgPeriod, cfgRepeats := (hostWrite idx v s).cfgRepeats
      cfgGapMult := (hostWrite idx v s).cfgGapMult, cfgFlags := (hostWrite idx v s).cfgFlags
      pidx := (hostWrite idx v s).pidx } := by
  unfold hostWrite
  split
  · rfl
  · next r _ => cases r <;> rfl

/-- Settles O53, by the frames of the builder rows and of a register write, and the effects of the operations. -/
theorem bufferChangesOnlyByLoadbufOrEncode : Obligations.BufferChangesOnlyByLoadbufOrEncode := by
  refine ⟨fun i s t h => ?_, fun idx v s => ?_⟩
  · obtain ⟨_, he⟩ | ⟨_, he⟩ := exec_cases h
    · have hb := he.builderOnly.buf
      exact ⟨fun _ => hb, hb.2.trans⟩
    · exact ⟨he.buf_of_not_mayWriteBuf, he.bufValid⟩
  · rw [hostWrite_frame]
    exact ⟨rfl, rfl, rfl, rfl⟩

end Sys2Proof.Machine

/-! ## The invariants of 10_state.md R52 and the form of PMEM -/

namespace Sys2Proof.Machine

open Sys2Proof.Claims

/-! ### Introducing and transporting `Legal` -/

/-- A state with the builder idle is legal. -/
theorem legal_of_idle {t : State} (hst : t.st = .idle) (hbusy : t.busy = false) (hbi : t.bi.toNat ≤ 10)
    (hcap : t.pulseCount.toNat ≤ t.build.maxPulses.toNat) : Legal t := by
  refine ⟨by simp [hst, hbusy], hbi, ?_, ?_, hcap, ?_, fun _ => hbusy⟩ <;> simp [hst, hbusy]

/-- A state with a build in progress is legal. -/
theorem legal_of_busy {t : State} (hst : t.st ≠ .idle) (hbusy : t.busy = true) (hbi : t.bi.toNat ≤ 10)
    (hsend : t.st = .sendByte → oneBitMask t.bm ∧ t.bi.toNat ≤ 9) (hbyte : t.st = .byteStart → t.bi.toNat ≤ 9)
    (hcap : t.pulseCount.toNat ≤ t.build.maxPulses.toNat) (hrep : t.rep.toNat < t.latch.repeats.toNat)
    (hwave : t.waveValid = false) : Legal t :=
  ⟨by simp [hst, hbusy], hbi, hsend, hbyte, hcap, fun _ => hrep, by simp [hwave]⟩

theorem bi_le_of_legal {s : State} (hs : Legal s) : s.bi.toNat ≤ 10 := by
  obtain ⟨_, hbi, _⟩ := hs
  exact hbi

theorem capacity_of_legal {s : State} (hs : Legal s) : s.pulseCount.toNat ≤ s.build.maxPulses.toNat := by
  obtain ⟨_, _, _, _, hcap, _⟩ := hs
  exact hcap

/-- While the builder has a state to act in, BUSY is 1, REP is below N and the waveform is not yet valid. -/
theorem building_of_legal {s : State} (hs : Legal s) (hst : s.st ≠ .idle) :
    s.busy = true ∧ s.rep.toNat < s.latch.repeats.toNat ∧ s.waveValid = false := by
  obtain ⟨hidle, _, _, _, _, hrep, hwave⟩ := hs
  have hbusy : s.busy = true := by simpa using mt hidle.2 hst
  exact ⟨hbusy, hrep hbusy, by simpa [hbusy] using hwave⟩

/-- The invariants speak of the builder's fields alone. -/
theorem legal_congr {s t : State} (h : BuilderFrame s t) (hs : Legal s) : Legal t := by
  obtain ⟨_, _, hcount, _, hwave, hbusy, hst, hbi, hbm, hrep, _, _, hlatch, hbuild⟩ := h
  unfold Legal
  rw [hcount, hwave, hbusy, hst, hbi, hbm, hrep, hlatch, hbuild]
  exact hs

theorem pmemCanonical_congr {s t : State} (hm : t.pmem = s.pmem) (hb : t.build = s.build)
    (hs : PmemCanonical s) : PmemCanonical t := by
  unfold PmemCanonical
  rw [hm, hb]
  exact hs

theorem hostWrite_builderFrame (idx : BitVec 8) (v : Word) (s : State) : BuilderFrame s (hostWrite idx v s) := by
  rw [hostWrite_frame]
  constructor <;> rfl

theorem hostRead_builderFrame (idx : BitVec 8) (s : State) : BuilderFrame s (hostRead idx s) := by
  constructor <;> rfl

/-! ### Pulses -/

/-- Appending below the capacity counts one pulse more. -/
theorem pulseCount_succ_toNat {s : State} (hcap : s.pulseCount.toNat ≤ s.build.maxPulses.toNat)
    (hne : s.pulseCount ≠ s.build.maxPulses) :
    s.pulseCount.toNat < s.build.maxPulses.toNat ∧ (s.pulseCount + 1).toNat = s.pulseCount.toNat + 1 := by
  bv_omega

/-- Pulses stay within the capacity (43_waveform.md R230). -/
theorem Pulsed.capacity {s t : State} (h : Pulsed s t) (hcap : s.pulseCount.toNat ≤ s.build.maxPulses.toNat) :
    t.pulseCount.toNat ≤ t.build.maxPulses.toNat := by
  induction h with
  | none => exact hcap
  | merged _ _ ih => exact ih
  | appended _ hne ih =>
    obtain ⟨hlt, hsucc⟩ := pulseCount_succ_toNat ih hne
    exact hsucc.trans_le hlt

theorem Pulsed.legal {s t : State} (h : Pulsed s t) (hs : Legal s) : Legal t := by
  have hcap := h.capacity (capacity_of_legal hs)
  obtain ⟨hidle, hbi, hsend, hbyte, _, hrep, hwave⟩ := hs
  rw [h.frame] at hcap ⊢
  exact ⟨hidle, hbi, hsend, hbyte, hcap, hrep, hwave⟩

/-- Pulses are written below PULSE_COUNT, so below the capacity (10_state.md R38, R39). -/
theorem Pulsed.pmemCanonical {s t : State} (h : Pulsed s t) (hcap : s.pulseCount.toNat ≤ s.build.maxPulses.toNat)
    (hp : PmemCanonical s) : PmemCanonical t := by
  induction h with
  | none => exact hp
  | @merged u lvl d hu hm ih =>
    have hle := hu.capacity hcap
    obtain ⟨hpos, _⟩ := (merges_iff lvl u).1 hm
    have hlast : u.pulseCount.toNat - 1 < u.build.maxPulses.toNat := by omega
    exact pmemWrite_wf _ _ _ _ hlast ih
  | appended hu hne ih =>
    obtain ⟨hlt, _⟩ := pulseCount_succ_toNat (hu.capacity hcap) hne
    exact pmemWrite_wf _ _ _ _ hlt ih

/-- Pulses leave the builder's state as it is. -/
theorem Pulsed.st {s t : State} (h : Pulsed s t) : t.st = s.st := by rw [h.frame]

theorem Pulsed.bi {s t : State} (h : Pulsed s t) : t.bi = s.bi := by rw [h.frame]

theorem Pulsed.bm {s t : State} (h : Pulsed s t) : t.bm = s.bm := by rw [h.frame]

/-! ### The builder rows keep the invariants -/

/-- The state whose action a builder row is (30_encoding.md R89). -/
def rowState : Instr → BuilderState
  | .stMessageStart => .messageStart
  | .stByteStart => .byteStart
  | .stSendByte => .sendByte
  | .stMessageEnd => .messageEnd
  | .stGapStart => .gapStart
  | .stGapEnd => .gapEnd
  | _ => .idle

/-- In a legal state the enabled row is the action of `ST` (43_waveform.md R220). -/
theorem rowState_builderInstr {s : State} (hs : Legal s) : rowState (builderInstr s) = s.st := by
  obtain ⟨hidle, _⟩ := hs
  unfold builderInstr
  split
  · cases s.st <;> rfl
  · next hb => exact (hidle.2 (by simpa using hb)).symm

theorem builderInstr_isBuilderRow (s : State) : IsBuilderRow (builderInstr s) := by
  unfold builderInstr
  split
  · cases s.st <;> simp [IsBuilderRow]
  · simp [IsBuilderRow]

/-- A message starts at byte 0 (43_waveform.md R222). -/
theorem zeroBi_legal {s : State} (hs : Legal s) : Legal { s with bi := 0 } := by
  obtain ⟨hidle, _, hsend, _, hcap, hrep, hwave⟩ := hs
  exact ⟨hidle, Nat.zero_le _, fun h => ⟨(hsend h).1, Nat.zero_le _⟩, fun _ => Nat.zero_le _, hcap, hrep, hwave⟩

/-- A byte starts at its most significant bit (43_waveform.md R223). -/
theorem firstBit_legal {s : State} (hs : Legal s) : Legal { s with bm := 0x80 } := by
  obtain ⟨hidle, hbi, hsend, hbyte, hcap, hrep, hwave⟩ := hs
  exact ⟨hidle, hbi, fun h => ⟨.inl rfl, (hsend h).2⟩, hbyte, hcap, hrep, hwave⟩

/-- GapEnd counts on below N only (43_waveform.md R227). -/
theorem nextRep_legal {s : State} (hs : Legal s) (hlt : s.rep.toNat + 1 < s.latch.repeats.toNat) :
    Legal { s with rep := s.rep + 1 } := by
  obtain ⟨hidle, hbi, hsend, hbyte, hcap, _, hwave⟩ := hs
  have hsucc : (s.rep + 1).toNat = s.rep.toNat + 1 := by bv_omega
  exact ⟨hidle, hbi, hsend, hbyte, hcap, fun _ => hsucc.trans_lt hlt, hwave⟩

theorem capacityAbort_legal {s : State} (hbi : s.bi.toNat ≤ 10) : Legal (capacityAbort s) :=
  legal_of_idle rfl rfl hbi (Nat.zero_le _)

theorem finish_legal {s : State} (hs : Legal s) (r : BitVec 8) : Legal (finish { s with rep := r }) := by
  obtain ⟨_, hbi, _, _, hcap, _⟩ := hs
  exact legal_of_idle rfl rfl hbi hcap

theorem gr_legal {s : State} (hs : Legal s) (g : BitVec 8) : Legal { s with gr := g } := hs

/-- A builder with a state to act in may go to another one, if that is not idle and BI and BM fit it. -/
theorem enterState_legal {s : State} {st : BuilderState} (hs : Legal s) (hfrom : s.st ≠ .idle) (hto : st ≠ .idle)
    (hsend : st = .sendByte → oneBitMask s.bm ∧ s.bi.toNat ≤ 9) (hbyte : st = .byteStart → s.bi.toNat ≤ 9) :
    Legal { s with st := st } := by
  obtain ⟨hbusy, hrep, hwave⟩ := building_of_legal hs hfrom
  obtain ⟨_, hbi, _, _, hcap, _⟩ := hs
  exact legal_of_busy hto hbusy hbi hsend hbyte hcap hrep hwave

/-- The next bit of a byte's mask is none, at its end, or again one bit (43_waveform.md R224). -/
theorem oneBitMask_shift {b : Byte} (h : oneBitMask b) : b >>> 1 = 0 ∨ oneBitMask (b >>> 1) := by
  unfold oneBitMask at *
  obtain rfl | rfl | rfl | rfl | rfl | rfl | rfl | rfl := h <;> decide

theorem nextBit_legal {s : State} (hs : Legal s) (hst : s.st = .sendByte) : Legal (nextBit s) := by
  obtain ⟨hbusy, hrep, hwave⟩ := building_of_legal hs (by simp [hst])
  obtain ⟨_, _, hsend, _, hcap, _⟩ := hs
  obtain ⟨hmask, hbi⟩ := hsend hst
  have hsucc : (s.bi + 1).toNat = s.bi.toNat + 1 := by bv_omega
  simp only [nextBit]
  split_ifs with hend hlast
  · exact legal_of_busy (by simp) hbusy (hsucc.trans_le (by omega)) (by simp) (by simp) hcap hrep hwave
  · have hbi' : (s.bi + 1).toNat ≤ 9 := by omega
    exact legal_of_busy (by simp) hbusy (hbi'.trans (by omega)) (by simp) (fun _ => hbi') hcap hrep hwave
  · have hmask' := (oneBitMask_shift hmask).resolve_left hend
    exact legal_of_busy (by simp [hst]) hbusy (by omega) (fun _ => ⟨hmask', hbi⟩) (fun _ => hbi) hcap hrep hwave

theorem afterMessage_legal {s : State} (hs : Legal s) (hst : s.st = .messageEnd) : Legal (afterMessage s) := by
  unfold afterMessage
  split
  · exact finish_legal hs _
  · exact enterState_legal (gr_legal hs _) (by simp [hst]) (by simp) (by simp) (by simp)

theorem afterGapUnit_legal {s : State} (hs : Legal s) (hst : s.st = .gapStart) : Legal (afterGapUnit s) := by
  unfold afterGapUnit
  split
  · exact enterState_legal hs (by simp [hst]) (by simp) (by simp) (by simp)
  · exact gr_legal hs _

theorem bi_segmentStart_le {s : State} (hs : Legal s) (i : Instr) : (segmentStart i s).bi.toNat ≤ 10 := by
  have hbi := bi_le_of_legal hs
  unfold segmentStart
  split
  · exact Nat.zero_le _
  all_goals exact hbi

/-- The builder's step keeps the invariants: the row that `ST` names does. -/
theorem BuilderEffect.legal {s t : State} {i : Instr} (h : BuilderEffect s i t) (hs : Legal s)
    (hst : s.st = rowState i) : Legal t := by
  cases h with
  | idle => exact hs
  | messageStart hu =>
    have hu := segOn_went hu
    refine enterState_legal (hu.legal (zeroBi_legal hs)) ?_ (by simp) (by simp) (by simp [hu.bi])
    simp [hu.st, hst, rowState]
  | byteStart hu =>
    have hu := segOn_went hu
    have ⟨_, _, _, hbyte, _⟩ := hs
    refine enterState_legal (hu.legal (firstBit_legal hs)) ?_ (by simp) (fun _ => ?_) (by simp)
    · simp [hu.st, hst, rowState]
    · rw [hu.bm, hu.bi]
      exact ⟨.inl rfl, hbyte hst⟩
  | sendByte _ hu =>
    have hu := bitSegment_went hu
    exact nextBit_legal (hu.legal hs) (hu.st.trans hst)
  | messageEnd hu =>
    have hu := segOn_went hu
    exact afterMessage_legal (hu.legal hs) (hu.st.trans hst)
  | gapStart hu =>
    have hu := segOff_went hu
    exact afterGapUnit_legal (hu.legal hs) (hu.st.trans hst)
  | finished => exact finish_legal hs _
  | restarted hlt hu =>
    have hu := segOff_went hu
    refine enterState_legal (hu.legal (nextRep_legal hs hlt)) ?_ (by simp) (by simp) (by simp)
    simp [hu.st, hst, rowState]
  | aborted _ hu =>
    refine capacityAbort_legal ?_
    rw [hu.bi]
    exact bi_segmentStart_le hs i

/-! ### Every step keeps the invariants -/

theorem buildWave_legal {s : State} (hs : Legal s) (hbusy : s.busy = false) : Legal (buildWave s) := by
  obtain ⟨sub, e⟩ | ⟨hrep, e⟩ := buildWave_cases s <;> rw [e]
  · obtain ⟨hidle, hbi, _⟩ := hs
    exact legal_of_idle (hidle.2 hbusy) hbusy hbi (Nat.zero_le _)
  · refine legal_of_busy (by simp) rfl (Nat.zero_le _) (by simp) (by simp) (Nat.zero_le _) ?_ rfl
    exact Nat.pos_of_ne_zero fun h => hrep (BitVec.eq_of_toNat_eq h)

theorem OpEffect.legal {s t : State} {i : Instr} (h : OpEffect s i t) (hs : Legal s) : Legal t := by
  obtain hframe | ⟨_, hbusy, rfl⟩ := h.builderFrame_or_built
  · exact legal_congr hframe hs
  · exact buildWave_legal hs hbusy

theorem applyReset_legal (s : State) : Legal (applyReset s) :=
  legal_of_idle rfl rfl (Nat.zero_le _) (Nat.zero_le _)

/-- Settles O46, by the inversion of the step: a builder row runs in its own state, where its effect keeps the
invariants; an operation leaves the builder alone or starts a build; a host access touches neither. -/
theorem stepKeepsLegal : Obligations.StepKeepsLegal := by
  intro s t hs h
  cases step_effect h with
  | builder h =>
    exact (exec_builderEffect (builderInstr_isBuilderRow s) h).legal hs (rowState_builderInstr hs).symm
  | operation h => exact (exec_opEffect (decodeOp_not_builderRow _) h).legal hs
  | reset => exact applyReset_legal _
  | read => exact legal_congr (hostRead_builderFrame _ _) hs
  | write => exact legal_congr (hostWrite_builderFrame _ _ _) hs

/-! ### Every step keeps the form of PMEM -/

theorem ControlOnly.pmemCanonical {s t : State} (h : ControlOnly s t) (hp : PmemCanonical s) : PmemCanonical t := by
  rw [h]
  exact hp

theorem ControlOnly.capacity {s t : State} (h : ControlOnly s t)
    (hcap : s.pulseCount.toNat ≤ s.build.maxPulses.toNat) : t.pulseCount.toNat ≤ t.build.maxPulses.toNat := by
  rw [h]
  exact hcap

theorem BuilderEffect.pmemCanonical {s t : State} {i : Instr} (h : BuilderEffect s i t) (hs : Legal s)
    (hp : PmemCanonical s) : PmemCanonical t := by
  obtain ⟨s₀, u, hstart, hpulses, hend | rfl⟩ := h.shape
  · have hcap := hstart.capacity (capacity_of_legal hs)
    exact hend.pmemCanonical (hpulses.pmemCanonical hcap (hstart.pmemCanonical hp))
  · exact pmemWf_nil _

theorem OpEffect.pmem {s t : State} {i : Instr} (h : OpEffect s i t) : t.pmem = s.pmem := by
  obtain hframe | ⟨_, _, rfl⟩ := h.builderFrame_or_built
  · exact hframe.pmem
  · obtain ⟨sub, e⟩ | ⟨_, e⟩ := buildWave_cases s <;> rw [e] <;> rfl

/-- Settles O47, by the inversion of the step: pulses are written below the capacity, and nothing else writes PMEM but
an abort or a reset, which empties it. -/
theorem stepKeepsPmemCanonical : Obligations.StepKeepsPmemCanonical := by
  intro s t hs hp h
  cases step_effect h with
  | builder h => exact (exec_builderEffect (builderInstr_isBuilderRow s) h).pmemCanonical hs hp
  | operation h =>
    have he := exec_opEffect (decodeOp_not_builderRow _) h
    exact pmemCanonical_congr he.pmem he.hostFrame.build hp
  | reset => exact pmemWf_nil _
  | read => exact hp
  | write =>
    rw [hostWrite_frame]
    exact hp

/-! ### Reset -/

theorem resetOf_legal (b : BuildParams) : Legal (State.resetOf b) :=
  legal_of_idle rfl rfl (Nat.zero_le _) (Nat.zero_le _)

/-- No pulse: every clause about a pulse is empty. -/
theorem resetOf_waveformLegal (b : BuildParams) : WaveformLegal (State.resetOf b) :=
  ⟨rfl, fun _ h => absurd h (Nat.not_lt_zero _), fun _ h => absurd h (Nat.not_lt_zero _),
    fun _ h => absurd h (Nat.not_lt_zero _), rfl, fun h => nomatch h⟩

theorem resetOf_errorsLegal (b : BuildParams) : ErrorsLegal (State.resetOf b) :=
  ⟨nofun, BitVec.getElem_zero (by omega), BitVec.zero_and, fun _ => rfl, BitVec.zero_and, fun _ => rfl⟩

/-- Settles O45: the builder is idle, no pulse, no error. -/
theorem resetStateIsLegal : Obligations.ResetStateIsLegal := fun b =>
  ⟨resetOf_legal b, resetOf_pmemCanonical b, resetOf_waveformLegal b, resetOf_errorsLegal b, rfl, rfl⟩

/-! ### The STICKY bits -/

/-- The STICKY field is as it was, or has one error's bit more (60_exceptions.md R264). -/
def StickyGrown (s t : State) : Prop :=
  t.sticky = s.sticky ∨ ∃ e, t.sticky = s.sticky ||| stickyBit e

theorem StickyGrown.and_eq {s t : State} (h : StickyGrown s t) : s.sticky &&& t.sticky = s.sticky := by
  obtain e | ⟨_, e⟩ := h <;> rw [e]
  · exact BitVec.and_self
  · ext i
    simp +contextual

theorem ControlOnly.sticky {s t : State} (h : ControlOnly s t) : t.sticky = s.sticky := by rw [h]

theorem Pulsed.sticky {s t : State} (h : Pulsed s t) : t.sticky = s.sticky := by rw [h.frame]

theorem BuilderEffect.stickyGrown {s t : State} {i : Instr} (h : BuilderEffect s i t) : StickyGrown s t := by
  obtain ⟨s₀, u, hstart, hpulses, hend | rfl⟩ := h.shape
  · exact .inl (hend.sticky.trans (hpulses.sticky.trans hstart.sticky))
  · refine .inr ⟨.capacity, ?_⟩
    rw [capacityAbort_sticky, hpulses.sticky, hstart.sticky]

theorem OpEffect.stickyGrown {s t : State} {i : Instr} (h : OpEffect s i t) : StickyGrown s t := by
  cases h with
  | illegal => exact .inr ⟨_, rfl⟩
  | encodeFailed => exact .inr ⟨_, rfl⟩
  | decodeFailed => exact .inr ⟨_, rfl⟩
  | noBuffer => exact .inr ⟨_, rfl⟩
  | loaded =>
    obtain e | e := loadBuffer_cases s <;> rw [e]
    · exact .inr ⟨_, rfl⟩
    · exact .inl rfl
  | built =>
    obtain ⟨sub, e⟩ | ⟨_, e⟩ := buildWave_cases s <;> rw [e]
    · exact .inr ⟨_, rfl⟩
    · exact .inl rfl
  | _ => exact .inl rfl

theorem exec_stickyGrown {i : Instr} {s t : State} (h : exec i s = .next t) : StickyGrown s t := by
  obtain ⟨_, he⟩ | ⟨_, he⟩ := exec_cases h
  · exact he.stickyGrown
  · exact he.stickyGrown

/-- Settles O52: an instruction adds one STICKY bit or none; only the reset clears them. -/
theorem stickyBitsOnlyGrow : Obligations.StickyBitsOnlyGrow := by
  refine ⟨fun i s t h => (exec_stickyGrown h).and_eq, fun s t hreset h => ?_⟩
  cases step_effect h with
  | builder h => exact (exec_stickyGrown h).and_eq
  | operation h => exact (exec_stickyGrown h).and_eq
  | reset hr => exact absurd hr (hreset _)
  | read => exact BitVec.and_self
  | write =>
    rw [hostWrite_frame]
    exact BitVec.and_self

end Sys2Proof.Machine

/-! ## The registers -/

namespace Sys2Proof.Machine

open Sys2Proof.Claims

/-! ### Fields of a word -/

/-- The field of `n` bits from bit `a` as a number. -/
theorem extractLsb'_toNat_eq_div_mod {w : Nat} (v : BitVec w) (a n : Nat) :
    (v.extractLsb' a n).toNat = v.toNat / 2 ^ a % 2 ^ n := by
  rw [BitVec.extractLsb'_toNat, Nat.shiftRight_eq_div_pow]

theorem extractLsb'_eq_of_div_mod {w a n : Nat} {v : BitVec w} {x : BitVec n}
    (h : v.toNat / 2 ^ a % 2 ^ n = x.toNat) : v.extractLsb' a n = x :=
  BitVec.eq_of_toNat_eq ((extractLsb'_toNat_eq_div_mod v a n).trans h)

theorem extractLsb'_eq_zero_of_div_mod {w a n : Nat} {v : BitVec w}
    (h : v.toNat / 2 ^ a % 2 ^ n = 0) : v.extractLsb' a n = 0 :=
  extractLsb'_eq_of_div_mod (h.trans BitVec.toNat_zero.symm)

/-- No bit of `v` outside the mask `m`. -/
theorem and_not_eq_zero_of_getLsbD {w : Nat} {v m : BitVec w}
    (h : ∀ i, i < w → m.getLsbD i = false → v.getLsbD i = false) : v &&& ~~~m = 0 := by
  refine BitVec.eq_of_getLsbD_eq fun i hi => ?_
  cases hm : m.getLsbD i with
  | false => simp [h i hi hm]
  | true => simp [hm]

/-- A bit of a field that is 0 is 0. -/
theorem getLsbD_eq_false_of_extractLsb' {w a n i : Nat} {v : BitVec w} (h : v.extractLsb' a n = 0) (hlo : a ≤ i)
    (hhi : i < a + n) : v.getLsbD i = false := by
  have hbit := congrArg (fun x => x.getLsbD (i - a)) h
  have hlt : i - a < n := by omega
  simpa [hlt, Nat.add_sub_cancel' hlo] using hbit

/-- A value carried into a register has no bit above its width. -/
theorem setWidth_and_not_mask {n : Nat} (x : BitVec n) :
    x.setWidth 32 &&& ~~~ ((BitVec.allOnes n).setWidth 32) = 0 := by
  refine and_not_eq_zero_of_getLsbD fun i hi hm => ?_
  have hn : n ≤ i := by simpa [hi] using hm
  simp [hn]

/-! ### Lanes -/

theorem lanes_toNat (k0 k1 k2 k3 : Byte) : (lanes k0 k1 k2 k3).toNat =
    k0.toNat + 0x100 * k1.toNat + 0x10000 * k2.toNat + 0x1000000 * k3.toNat := by
  rw [lanes, BitVec.toNat_ofNat]
  omega

/-- Lane `k` of a register of four bytes is byte `k` (20_memory.md R65). -/
theorem extractLsb'_lanes {k0 k1 k2 k3 b : Byte} {k : Nat} (hk : k < 4) (hb : [k0, k1, k2, k3][k]? = some b) :
    (lanes k0 k1 k2 k3).extractLsb' (8 * k) 8 = b := by
  refine BitVec.eq_of_toNat_eq ?_
  rw [extractLsb'_toNat_eq_div_mod, lanes_toNat]
  interval_cases k <;> (cases hb; omega)

theorem extractLsb'_lanes_each (k0 k1 k2 k3 : Byte) :
    (lanes k0 k1 k2 k3).extractLsb' 0 8 = k0 ∧ (lanes k0 k1 k2 k3).extractLsb' 8 8 = k1 ∧
      (lanes k0 k1 k2 k3).extractLsb' 16 8 = k2 ∧ (lanes k0 k1 k2 k3).extractLsb' 24 8 = k3 :=
  ⟨extractLsb'_lanes (k := 0) (by omega) rfl, extractLsb'_lanes (k := 1) (by omega) rfl,
    extractLsb'_lanes (k := 2) (by omega) rfl, extractLsb'_lanes (k := 3) (by omega) rfl⟩

/-- With the upper two bytes 0 the upper half of the register is 0. -/
theorem extractLsb'_lanes_upper (k0 k1 : Byte) : (lanes k0 k1 0 0).extractLsb' 16 16 = 0 := by
  have hv := lanes_toNat k0 k1 0 0
  have hzero : (0 : Byte).toNat = 0 := rfl
  exact extractLsb'_eq_zero_of_div_mod (by omega)

/-- The four lanes of a word make it up again. -/
theorem lanes_lane (v : Word) : lanes (lane v 0) (lane v 1) (lane v 2) (lane v 3) = v := by
  refine BitVec.eq_of_toNat_eq ?_
  simp only [lanes_toNat, lane, extractLsb'_toNat_eq_div_mod]
  omega

/-! ### STATUS -/

theorem statusWord_toNat (s : State) : (statusWord s).toNat =
    s.busy.toNat + 2 * s.bufValid.toNat + 4 * s.decValid.toNat + 8 * s.waveValid.toNat +
      0x100 * (errCode s.lastErr).toNat + 0x20000 * s.sticky.toNat + 0x1000000 * (stateCode s.st).toNat := by
  rw [statusWord, BitVec.toNat_ofNat]
  have hbusy := s.busy.toNat_lt
  have hbuf := s.bufValid.toNat_lt
  have hdec := s.decValid.toNat_lt
  have hwave := s.waveValid.toNat_lt
  omega

/-- Settles O39: each field is a quotient and remainder of the sum that STATUS is. -/
theorem statusHoldsItsFields : Obligations.StatusHoldsItsFields := by
  intro s
  have hv : (readReg .status s).toNat = _ := statusWord_toNat s
  have hbusy := s.busy.toNat_lt
  have hbuf := s.bufValid.toNat_lt
  have hdec := s.decValid.toNat_lt
  have hwave := s.waveValid.toNat_lt
  exact ⟨extractLsb'_eq_of_div_mod (by rw [BitVec.toNat_ofBool]; omega),
    extractLsb'_eq_of_div_mod (by rw [BitVec.toNat_ofBool]; omega),
    extractLsb'_eq_of_div_mod (by rw [BitVec.toNat_ofBool]; omega),
    extractLsb'_eq_of_div_mod (by rw [BitVec.toNat_ofBool]; omega),
    extractLsb'_eq_zero_of_div_mod (by omega), extractLsb'_eq_of_div_mod (by omega),
    extractLsb'_eq_zero_of_div_mod (by omega), extractLsb'_eq_of_div_mod (by omega),
    extractLsb'_eq_zero_of_div_mod (by omega), extractLsb'_eq_of_div_mod (by omega),
    extractLsb'_eq_zero_of_div_mod (by omega)⟩

/-! ### What each register shows -/

theorem readReg_pWindow_of_lt {s : State} (h : s.pidx.toNat < s.pulseCount.toNat) :
    readReg .pOn s = (pmemRead s s.pidx.toNat).on ∧ readReg .pOff s = (pmemRead s s.pidx.toNat).off ∧
      readReg .pDurLo s = (pmemRead s s.pidx.toNat).dur.extractLsb' 0 32 ∧
      readReg .pDurHi s = (pmemRead s s.pidx.toNat).dur.extractLsb' 32 32 := by
  simp [readReg, windowPulse, h]

theorem readReg_pWindow_of_le {s : State} (h : s.pulseCount.toNat ≤ s.pidx.toNat) :
    readReg .pOn s = 0 ∧ readReg .pOff s = 0 ∧ readReg .pDurLo s = 0 ∧ readReg .pDurHi s = 0 := by
  simp [readReg, windowPulse, Nat.not_lt.2 h]

theorem readReg_total (s : State) :
    (readReg .totalLo s).toNat + 2 ^ 32 * (readReg .totalHi s).toNat = s.total.toNat := by
  have hlt := s.total.isLt
  have hlo : (readReg .totalLo s).toNat = _ := extractLsb'_toNat_eq_div_mod s.total 0 32
  have hhi : (readReg .totalHi s).toNat = _ := extractLsb'_toNat_eq_div_mod s.total 32 32
  omega

/-- BUF_W0 has bytes 0 to 3 of BUF in its lanes (10_state.md R28, 20_memory.md R65). -/
theorem bufW0_lane {s : State} {k : Nat} {b : Byte} (hk : k < 4) (hb : byteAt s.buf k = some b) :
    (readReg .bufW0 s).extractLsb' (8 * k) 8 = b := by
  refine extractLsb'_lanes hk (Eq.trans ?_ hb)
  interval_cases k <;> rfl

/-- BUF_W1 has bytes 4 to 7. -/
theorem bufW1_lane {s : State} {k : Nat} {b : Byte} (hk : k < 4) (hb : byteAt s.buf (4 + k) = some b) :
    (readReg .bufW1 s).extractLsb' (8 * k) 8 = b := by
  refine extractLsb'_lanes hk (Eq.trans ?_ hb)
  interval_cases k <;> rfl

/-- BUF_W2 has bytes 8 and 9, and 0 above them. -/
theorem bufW2_lane {s : State} {k : Nat} {b : Byte} (hk : k < 2) (hb : byteAt s.buf (8 + k) = some b) :
    (readReg .bufW2 s).extractLsb' (8 * k) 8 = b := by
  refine extractLsb'_lanes (by omega) (Eq.trans ?_ hb)
  interval_cases k <;> rfl

theorem bufW2_upper (s : State) : (readReg .bufW2 s).extractLsb' 16 16 = 0 :=
  extractLsb'_lanes_upper _ _

theorem toNat_setWidth_word {n : Nat} (x : BitVec n) (hn : n ≤ 32 := by omega) :
    (x.setWidth 32).toNat = x.toNat :=
  BitVec.toNat_setWidth_of_le hn

/-- Settles O42: the registers of bytes by their lanes, those of one field by its width. -/
theorem readOnlyRegistersShowTheirState : Obligations.ReadOnlyRegistersShowTheirState := by
  intro s
  obtain ⟨hhigh, htrail, hlow, hgap⟩ :=
    extractLsb'_lanes_each s.build.highCount s.build.trailCount s.build.lowCount s.build.gapCount
  obtain ⟨hdec0, hdec1, hdec2, hdec3⟩ :=
    extractLsb'_lanes_each s.decAddr.a0 s.decAddr.a1 s.decAddr.a2 s.decAddr.a3
  obtain ⟨hcmd0, hcmd1, hcmd2, hcmd3⟩ :=
    extractLsb'_lanes_each s.cmdAddr.a0 s.cmdAddr.a1 s.cmdAddr.a2 s.cmdAddr.a3
  exact ⟨readReg_pWindow_of_lt, readReg_pWindow_of_le, readReg_total s, fun _ _ => bufW0_lane,
    fun _ _ => bufW1_lane, fun _ _ => bufW2_lane, bufW2_upper s,
    hhigh, htrail, hlow, hgap, toNat_setWidth_word _, rfl,
    toNat_setWidth_word _, toNat_setWidth_word _, toNat_setWidth_word _, toNat_setWidth_word _,
    hdec0, hdec1, hdec2, hdec3, toNat_setWidth_word _,
    toNat_setWidth_word _, toNat_setWidth_word _, toNat_setWidth_word _, toNat_setWidth_word _,
    toNat_setWidth_word _, toNat_setWidth_word _, toNat_setWidth_word _,
    hcmd0, hcmd1, hcmd2, hcmd3, toNat_setWidth_word _, toNat_setWidth_word _,
    toNat_setWidth_word _, toNat_setWidth_word _, toNat_setWidth_word _, toNat_setWidth_word _,
    toNat_setWidth_word _, toNat_setWidth_word _⟩

/-! ### Reserved indices and bits -/

/-- An index that is no register's is reserved (10_state.md R22). -/
theorem regAt_eq_none {idx : BitVec 8} (h : ∀ r, regIndex r ≠ idx) : regAt idx = none := by
  simp [regAt, h]

theorem status_and_not_mask (s : State) : readReg .status s &&& ~~~ (fieldMask .status) = 0 := by
  obtain ⟨_, _, _, _, h4, _, h12, _, h23, _, h27⟩ := statusHoldsItsFields s
  have hreserved : ∀ i < 32, (fieldMask .status).getLsbD i = false →
      (4 ≤ i ∧ i < 4 + 4) ∨ (12 ≤ i ∧ i < 12 + 5) ∨ (23 ≤ i ∧ i < 23 + 1) ∨ (27 ≤ i ∧ i < 27 + 5) := by decide
  refine and_not_eq_zero_of_getLsbD fun i hi hm => ?_
  obtain ⟨hlo, hhi⟩ | ⟨hlo, hhi⟩ | ⟨hlo, hhi⟩ | ⟨hlo, hhi⟩ := hreserved i hi hm
  · exact getLsbD_eq_false_of_extractLsb' h4 hlo hhi
  · exact getLsbD_eq_false_of_extractLsb' h12 hlo hhi
  · exact getLsbD_eq_false_of_extractLsb' h23 hlo hhi
  · exact getLsbD_eq_false_of_extractLsb' h27 hlo hhi

theorem bufW2_and_not_mask (s : State) : readReg .bufW2 s &&& ~~~ (fieldMask .bufW2) = 0 := by
  have hreserved : ∀ i < 32, (fieldMask .bufW2).getLsbD i = false → 16 ≤ i ∧ i < 16 + 16 := by decide
  refine and_not_eq_zero_of_getLsbD fun i hi hm => ?_
  obtain ⟨hlo, hhi⟩ := hreserved i hi hm
  exact getLsbD_eq_false_of_extractLsb' (bufW2_upper s) hlo hhi

/-- A register has no bit outside its fields; ERRINFO by the invariant of the error record. -/
theorem readReg_and_not_mask (r : Reg) {s : State} (hs : ErrorsLegal s) :
    readReg r s &&& ~~~ (fieldMask r) = 0 := by
  cases r
  case op => exact BitVec.zero_and
  case status => exact status_and_not_mask s
  case errInfo =>
    obtain ⟨_, _, _, _, hinfo, _⟩ := hs
    exact hinfo
  case bufW2 => exact bufW2_and_not_mask s
  case bufW0 | bufW1 | cmdAddrLo | decAddrLo | totalLo | totalHi | pOn | pOff | pDurLo | pDurHi | param0 =>
    exact BitVec.and_zero
  all_goals exact setWidth_and_not_mask _

/-- Settles O41, by the mask of each register's fields. -/
theorem reservedIndicesAndBitsReadZero : Obligations.ReservedIndicesAndBitsReadZero := by
  refine ⟨fun idx v s h => ?_, fun r s hs => readReg_and_not_mask r hs, fun _ => rfl⟩
  simp [readValue, hostWrite, regAt_eq_none h]

/-! ### Register writes -/

/-- The field of an RW register as it is read back. -/
theorem setWidth_extractLsb'_zero (v : Word) {n : Nat} (hn : n ≤ 32 := by omega) :
    (v.extractLsb' 0 n).setWidth 32 = BitVec.ofNat 32 (v.toNat % 2 ^ n) := by
  refine BitVec.eq_of_toNat_eq ?_
  rw [toNat_setWidth_word _ hn, extractLsb'_toNat_eq_div_mod, Nat.pow_zero, Nat.div_one, BitVec.toNat_ofNat]
  exact (Nat.mod_eq_of_lt ((Nat.mod_le _ _).trans_lt v.isLt)).symm

/-- An RW register reads back the bits of its field (10_state.md R23). -/
theorem readReg_writeReg_same {r : Reg} {n : Nat} (hr : rwWidth r = some n) (v : Word) (s : State) :
    readReg r (writeReg r v s) = BitVec.ofNat 32 (v.toNat % 2 ^ n) := by
  cases r <;> cases hr
  case cmdAddrLo =>
    rw [Nat.mod_eq_of_lt v.isLt, BitVec.ofNat_toNat, BitVec.setWidth_eq]
    exact lanes_lane v
  all_goals exact setWidth_extractLsb'_zero v

/-- A write to an RO register changes nothing (10_state.md R22). -/
theorem writeReg_of_readOnly {r : Reg} (hr : rwWidth r = none) (v : Word) (s : State) : writeReg r v s = s := by
  cases r <;> trivial

/-- No register but the one written reads another value, but for the pulse window, which PIDX moves (10_state.md R23,
R42). -/
theorem readReg_writeReg_other {r r' : Reg} (hne : r' ≠ r)
    (hpidx : r = .pidx → r' ≠ .pOn ∧ r' ≠ .pOff ∧ r' ≠ .pDurLo ∧ r' ≠ .pDurHi) (v : Word) (s : State) :
    readReg r' (writeReg r v s) = readReg r' s := by
  cases r
  case pidx =>
    obtain ⟨hon, hoff, hlo, hhi⟩ := hpidx rfl
    cases r' <;> trivial
  case cmdKind | cmdValue | cmdDevice | cmdAddrLo | cmdAddrHi | cmdRoom | cfgPin | cfgPeriod | cfgRepeats |
      cfgGapMult | cfgFlags =>
    cases r' <;> trivial
  all_goals rw [writeReg_of_readOnly rfl]

/-- Settles O40: what the written register reads, and what every other one does. -/
theorem registerWritesStoreTheirField : Obligations.RegisterWritesStoreTheirField := by
  intro r v s
  have hstore : hostWrite (regIndex r) v s = writeReg r v s := by simp [hostWrite]
  exact ⟨hstore, fun n hr => readReg_writeReg_same hr v s, fun hr => writeReg_of_readOnly hr v s,
    fun r' hne hpidx => readReg_writeReg_other hne hpidx v s⟩

end Sys2Proof.Machine

/-! ## The host port and the step -/

namespace Sys2Proof.Machine

open Sys2Proof.Claims

/-! ### Reads -/

theorem readIsOpen_regIndex (r : Reg) (s : State) :
    readIsOpen (regIndex r) s = (s.busy && openDuringBuild r) := by
  simp [readIsOpen]

theorem readValue_regIndex (r : Reg) (s : State) :
    readValue (regIndex r) s =
      if s.busy && openDuringBuild r then Config.freeRead s.freeCount else readReg r s := by
  simp [readValue]

theorem hostRead_freeCount (idx : BitVec 8) (s : State) :
    (hostRead idx s).freeCount = if readIsOpen idx s then s.freeCount + 1 else s.freeCount := rfl

/-- Settles O43: the value of a read by whether 20_memory.md R69 leaves it open. -/
theorem readsHaveNoSideEffect : Obligations.ReadsHaveNoSideEffect := by
  intro r s
  refine ⟨⟨_, rfl⟩, fun hfixed => ?_, fun hbusy hopen => ⟨?_, ?_⟩⟩
  · obtain h | h := hfixed <;> simp [readValue_regIndex, h]
  · simp [readValue_regIndex, hbusy, hopen]
  · simp [hostRead_freeCount, readIsOpen_regIndex, hbusy, hopen]

/-! ### The instruction a step runs -/

/-- A host write to OP is issued in the state with that input taken (20_memory.md R64, R68). -/
theorem step_opWrite {s : State} {w : Word} {rest : List Input} (hheld : s.heldOp = none)
    (hin : s.inputs = .write 0 w :: rest) : step s = exec (decodeOp w) { s with inputs := rest } := by
  simp [step, fetch, fetchInput, hheld, hin, regIndex]

/-- No input but a reset comes before what BUSY decides about a held write (20_memory.md R64). -/
theorem fetchHeld_of_not_reset (w : Word) {s : State} (hreset : ∀ rest, s.inputs ≠ .reset :: rest) :
    fetchHeld w s =
      if s.busy then .instr (builderInstr s) (takeTurn s) else .instr (decodeOp w) { s with heldOp := none } := by
  unfold fetchHeld
  split
  · next rest hin => exact absurd hin (hreset rest)
  · rfl

/-- With BUSY 0 a held write is released and takes effect (20_memory.md R64). -/
theorem step_heldOp_idle {s : State} {w : Word} (hheld : s.heldOp = some w) (hbusy : s.busy = false)
    (hreset : ∀ rest, s.inputs ≠ .reset :: rest) : step s = exec (decodeOp w) { s with heldOp := none } := by
  simp [step, fetch, hheld, fetchHeld_of_not_reset w hreset, hbusy]

/-- With BUSY 1 a held write waits and the builder goes on (20_memory.md R64). -/
theorem step_heldOp_busy {s : State} {w : Word} (hheld : s.heldOp = some w) (hbusy : s.busy = true)
    (hreset : ∀ rest, s.inputs ≠ .reset :: rest) : step s = exec (builderInstr s) (takeTurn s) := by
  simp [step, fetch, hheld, fetchHeld_of_not_reset w hreset, hbusy]

theorem takeTurn_turn {s : State} {rest : List Input} (hin : s.inputs = .turn :: rest) :
    takeTurn s = { s with inputs := rest } := by
  simp [takeTurn, hin]

/-- While BUSY a turn at the head of the inputs is the builder's, a held write or not (43_waveform.md R220). -/
theorem step_turn_busy {s : State} {rest : List Input} (hbusy : s.busy = true) (hin : s.inputs = .turn :: rest) :
    step s = exec (builderInstr s) { s with inputs := rest } := by
  cases hheld : s.heldOp with
  | none => simp [step, fetch, fetchInput, hheld, hin]
  | some w => rw [step_heldOp_busy hheld hbusy (by simp [hin]), takeTurn_turn hin, hheld]

/-- While BUSY the enabled row is the one that the code of `ST` decodes to (30_encoding.md R89, 43_waveform.md
R220). -/
theorem decodeState_stateCode {s : State} (hbusy : s.busy = true) :
    decodeState (stateCode s.st) = .ok (builderInstr s) := by
  unfold builderInstr
  rw [if_pos hbusy]
  cases s.st <;> rfl

theorem builderInstr_of_decodeState {s : State} {i : Instr} (hbusy : s.busy = true)
    (hdec : decodeState (stateCode s.st) = .ok i) : builderInstr s = i :=
  Except.ok.inj ((decodeState_stateCode hbusy).symm.trans hdec)

/-- Settles O6, by the rules for a write to OP, a held write, no input and a turn. -/
theorem stepRunsTheDecodedInstruction : Obligations.StepRunsTheDecodedInstruction := by
  refine fun s => ⟨fun w rest => step_opWrite, fun w => step_heldOp_idle, ?_, ?_⟩
  · intro i hbusy hdec hheld hin
    rw [step_builder s hheld hin, builderInstr_of_decodeState hbusy hdec]
  · intro i rest hbusy hdec hin
    rw [step_turn_busy hbusy hin, builderInstr_of_decodeState hbusy hdec]

end Sys2Proof.Machine

/-! ## Noninterference: the builder does not see the host's side -/

namespace Sys2Proof.Machine

open Sys2Proof.Claims

/-- `t` with the host's side of `h`: the registers that the host writes, and the record of its reads (10_state.md
R23; logs 3, 20). Every host access is such a change (`hostWrite_eq_withHostSide`, `hostRead_eq_withHostSide`). -/
def withHostSide (h t : State) : State :=
  { t with
    cmdKind := h.cmdKind, cmdValue := h.cmdValue, cmdDevice := h.cmdDevice, cmdAddr := h.cmdAddr
    cmdRoom := h.cmdRoom, cfgPin := h.cfgPin, cfgPeriod := h.cfgPeriod, cfgRepeats := h.cfgRepeats
    cfgGapMult := h.cfgGapMult, cfgFlags := h.cfgFlags, pidx := h.pidx
    replies := h.replies, freeCount := h.freeCount }

theorem BuilderOnly.refl (s : State) : BuilderOnly s s := rfl

/-- What the host writes is the same before and after a change of the builder's fields. -/
theorem withHostSide_hostWrite {s t : State} (h : BuilderOnly s t) (idx : BitVec 8) (v : Word) :
    withHostSide (hostWrite idx v s) t = hostWrite idx v t := by
  rw [h]
  unfold hostWrite
  split
  · rfl
  · next r _ => cases r <;> rfl

theorem withHostSide_hostRead {s t : State} (h : BuilderOnly s t) (idx : BitVec 8) :
    withHostSide (hostRead idx s) t =
      { t with replies := (hostRead idx s).replies, freeCount := (hostRead idx s).freeCount } := by
  rw [h]
  rfl

theorem hostWrite_eq_withHostSide (idx : BitVec 8) (v : Word) (s : State) :
    hostWrite idx v s = withHostSide (hostWrite idx v s) s :=
  (withHostSide_hostWrite (.refl s) idx v).symm

theorem hostRead_eq_withHostSide (idx : BitVec 8) (s : State) :
    hostRead idx s = withHostSide (hostRead idx s) s := rfl

/-! ### Segments -/

@[simp] theorem withHostSide_latch (h s : State) : (withHostSide h s).latch = s.latch := rfl
@[simp] theorem withHostSide_build (h s : State) : (withHostSide h s).build = s.build := rfl
@[simp] theorem withHostSide_bi (h s : State) : (withHostSide h s).bi = s.bi := rfl
@[simp] theorem withHostSide_txbuf (h s : State) : (withHostSide h s).txbuf = s.txbuf := rfl

/-- What a segment leaves, with the host's side of `h`: a segment sends the same pulses whatever the host's side is
(43_waveform.md R230 to R232). -/
def emitWithHostSide (h : State) : Emit → Emit
  | .went t => .went (withHostSide h t)
  | .aborted t => .aborted (withHostSide h t)

theorem addPulse_withHostSide (lvl : Level) (d : BitVec 64) (h s : State) :
    addPulse lvl d (withHostSide h s) = emitWithHostSide h (addPulse lvl d s) := by
  simp only [addPulse, apply_ite (emitWithHostSide h)]
  rfl

theorem segOff_withHostSide (c : Nat) (h s : State) :
    segOff c (withHostSide h s) = emitWithHostSide h (segOff c s) :=
  addPulse_withHostSide _ _ h s

theorem segOn_withHostSide (c : Nat) (h s : State) :
    segOn c (withHostSide h s) = emitWithHostSide h (segOn c s) := by
  simp only [segOn, withHostSide_latch, withHostSide_build, addPulse_withHostSide]
  cases addPulse .on (duration s.latch (c - s.build.trailCount.toNat)) s with
  | aborted a => rfl
  | went m => exact addPulse_withHostSide _ _ h m

theorem bitSegment_withHostSide (b : Byte) (h s : State) :
    bitSegment b (withHostSide h s) = emitWithHostSide h (bitSegment b s) := by
  simp only [bitSegment, apply_ite (emitWithHostSide h), ← segOn_withHostSide, ← segOff_withHostSide]
  rfl

/-! ### The builder rows -/

/-- A function of the state that neither reads nor writes the host's side. -/
def HostBlind (k : State → State) : Prop :=
  ∀ h s, k (withHostSide h s) = withHostSide h (k s)

theorem nextBit_hostBlind : HostBlind nextBit := by
  intro h s
  simp only [nextBit, apply_ite (withHostSide h)]
  rfl

theorem afterMessage_hostBlind : HostBlind afterMessage := by
  intro h s
  simp only [afterMessage, apply_ite (withHostSide h)]
  rfl

theorem afterGapUnit_hostBlind : HostBlind afterGapUnit := by
  intro h s
  simp only [afterGapUnit, apply_ite (withHostSide h)]
  rfl

/-- A step after a segment keeps the host's side when both its parts do. -/
theorem thenStep_withHostSide {h : State} {e e' : Emit} {k : State → State} (he : e' = emitWithHostSide h e)
    (hk : HostBlind k) : thenStep e' k = mapNext (withHostSide h) (thenStep e k) := by
  subst he
  cases e with
  | went t => exact congrArg _ (hk h t)
  | aborted t => rfl

/-- GapEnd after the last message is FINISH (43_waveform.md R227, R228). -/
theorem exec_stGapEnd_last {s : State} (hlast : s.latch.repeats.toNat ≤ s.rep.toNat + 1) :
    exec .stGapEnd s = .next (finish { s with rep := s.rep + 1 }) :=
  if_pos hlast

/-- GapEnd before a further message sends its OFF segment (43_waveform.md R227). -/
theorem exec_stGapEnd_more {s : State} (hmore : ¬ s.latch.repeats.toNat ≤ s.rep.toNat + 1) :
    exec .stGapEnd s = thenStep (segOff s.build.highCount.toNat { s with rep := s.rep + 1 })
      fun t => { t with st := .messageStart } :=
  if_neg hmore

/-- A builder row neither reads nor writes the host's side (20_memory.md R71; 43_waveform.md R212). -/
theorem exec_withHostSide {i : Instr} (hrow : IsBuilderRow i) (h s : State) :
    exec i (withHostSide h s) = mapNext (withHostSide h) (exec i s) := by
  obtain rfl | rfl | rfl | rfl | rfl | rfl | rfl := hrow
  · exact thenStep_withHostSide (segOn_withHostSide _ h { s with bi := 0 }) fun _ _ => rfl
  · exact thenStep_withHostSide (segOn_withHostSide _ h { s with bm := 0x80 }) fun _ _ => rfl
  · simp only [exec, execStSendByte, withHostSide_txbuf, withHostSide_bi]
    cases byteAt s.txbuf s.bi.toNat with
    | none => rfl
    | some b => exact thenStep_withHostSide (bitSegment_withHostSide b h s) nextBit_hostBlind
  · exact thenStep_withHostSide (segOn_withHostSide _ h s) afterMessage_hostBlind
  · exact thenStep_withHostSide (segOff_withHostSide _ h s) afterGapUnit_hostBlind
  · by_cases hlast : s.latch.repeats.toNat ≤ s.rep.toNat + 1
    · rw [exec_stGapEnd_last hlast, exec_stGapEnd_last (s := withHostSide h s) hlast]
      rfl
    · rw [exec_stGapEnd_more hlast, exec_stGapEnd_more (s := withHostSide h s) hlast]
      exact thenStep_withHostSide (segOff_withHostSide _ h { s with rep := s.rep + 1 }) fun _ _ => rfl
  · rfl

/-- Two changes of the next state are one answer where they agree on every state that the row can reach. -/
theorem mapNext_exec_congr {i : Instr} {s : State} {f g : State → State} (hrow : IsBuilderRow i)
    (hfg : ∀ t, BuilderOnly s t → f t = g t) : mapNext f (exec i s) = mapNext g (exec i s) := by
  cases he : exec i s with
  | next t => exact congrArg _ (hfg t (exec_builderEffect hrow he).builderOnly)
  | fault r => rfl
  | refused r => rfl

/-- Settles O44: a host access is a change of the host's side, which no builder row sees and which is the same before
and after the row. -/
theorem hostAccessesDoNotDisturbTheBuilder : Obligations.HostAccessesDoNotDisturbTheBuilder := by
  intro i idx v s hrow
  refine ⟨?_, ?_⟩
  · rw [hostWrite_eq_withHostSide idx v s, exec_withHostSide hrow]
    exact mapNext_exec_congr hrow fun t ht => withHostSide_hostWrite ht idx v
  · rw [hostRead_eq_withHostSide idx s, exec_withHostSide hrow]
    exact mapNext_exec_congr hrow fun t ht => withHostSide_hostRead ht idx

end Sys2Proof.Machine

/-! ## The encoding -/

namespace Sys2Proof.Machine

open Sys2Proof.Claims
open Sys2Proof.Laws.TableRow (opWordOf_toNat keyOf_toNat blockByte_toNat)

/-- The instruction is well formed and has this code. -/
def HasCode (e : Encoded) (i : Instr) : Prop := i.wf = true ∧ encode i = e

/-! ### Blocks of codes

A row fixes the upper bits of its code, so its codes are the numbers from `lo` up to `lo + 2 ^ a`, and the blocks
follow one another in the order in which the decoder tests them. -/

theorem extractLsb'_top_eq_iff {w a n : Nat} (hw : a + n = w) (v : BitVec w) (c : BitVec n) :
    v.extractLsb' a n = c ↔ v.toNat / 2 ^ a = c.toNat := by
  have hlt : v.toNat / 2 ^ a < 2 ^ n := Nat.div_lt_of_lt_mul (by rw [← pow_add, hw]; exact v.isLt)
  rw [← BitVec.toNat_inj, extractLsb'_toNat_eq_div_mod, Nat.mod_eq_of_lt hlt]

theorem extractLsb'_zero_toNat {w : Nat} (v : BitVec w) (n : Nat) : (v.extractLsb' 0 n).toNat = v.toNat % 2 ^ n := by
  rw [extractLsb'_toNat_eq_div_mod, Nat.pow_zero, Nat.div_one]

/-- A test of the decoder's chain: for a code past the blocks before it, the bits fixed at the top say that the code is
before the end of this block. -/
theorem ite_block_congr {α : Sort*} {w a n lo hi : Nat} {v : BitVec w} {c : BitVec n} {x y z : α}
    (hlo : lo ≤ v.toNat) (hw : a + n = w) (hc : c.toNat * 2 ^ a = lo) (hhi : (c.toNat + 1) * 2 ^ a = hi)
    (h : hi ≤ v.toNat → y = z) : (if v.extractLsb' a n = c then x else y) = if v.toNat < hi then x else z := by
  have hblock : v.extractLsb' a n = c ↔ v.toNat < hi := by
    have hge : c.toNat ≤ v.toNat / 2 ^ a := (Nat.le_div_iff_mul_le (by positivity)).2 (hc.trans_le hlo)
    rw [extractLsb'_top_eq_iff hw, ← hhi, ← Nat.div_lt_iff_lt_mul (by positivity)]
    omega
  exact ite_congr (propext hblock) (fun _ => rfl) fun hn => h (Nat.le_of_not_lt hn)

/-- A code past a block fails the block's test. -/
theorem ite_lt_of_block_le {α : Sort*} {x lo hi : Nat} {y z : α} (hlo : lo ≤ x) (h : hi ≤ lo := by decide) :
    (if x < hi then y else z) = z :=
  if_neg (Nat.not_lt.2 (h.trans hlo))

/-- A code before the end of a block passes the block's test. -/
theorem ite_lt_of_lt_block {α : Sort*} {x bound hi : Nat} {y z : α} (hhi : x < bound) (h : bound ≤ hi := by decide) :
    (if x < hi then y else z) = y :=
  if_pos (Nat.lt_of_lt_of_le hhi h)

/-- A number of an aligned block is the start of the block and its low bits. -/
theorem add_mod_of_mem_block {x m lo : Nat} (hlo : lo ≤ x) (hhi : x < lo + m) (hal : m ∣ lo) : lo + x % m = x := by
  obtain ⟨q, rfl⟩ := hal
  have hq : x / m = q := Nat.div_eq_of_lt_le (by rwa [Nat.mul_comm]) (by rwa [Nat.mul_comm, Nat.mul_add_one])
  rw [← hq]
  exact Nat.div_add_mod x m

theorem blockByte_toNat_of_le {base : Byte} {n : Nat} (v : BitVec n) (h : base.toNat + 2 ^ n ≤ 256) :
    (blockByte base v).toNat = base.toNat + v.toNat := by
  have hv := v.isLt
  rw [blockByte_toNat, Nat.mod_eq_of_lt (by omega)]

/-- A byte of a block is the block's base with the byte's low bits. -/
theorem blockByte_extractLsb' {base v : Byte} {n : Nat} (hlo : base.toNat ≤ v.toNat)
    (hhi : v.toNat < base.toNat + 2 ^ n) (hal : 2 ^ n ∣ base.toNat := by decide) :
    blockByte base (v.extractLsb' 0 n) = v := by
  refine BitVec.eq_of_toNat_eq ?_
  rw [blockByte_toNat, extractLsb'_zero_toNat, add_mod_of_mem_block hlo hhi hal, Nat.mod_eq_of_lt v.isLt]

/-- The bytes of a block run from its base on. -/
theorem mem_block_of_blockByte {base : Byte} {n x : Nat} {v : BitVec n} (hx : (blockByte base v).toNat = x)
    (hfit : base.toNat + 2 ^ n ≤ 256 := by decide) : base.toNat ≤ x ∧ x < base.toNat + 2 ^ n := by
  have hv := v.isLt
  rw [blockByte_toNat_of_le v hfit] at hx
  omega

theorem blockByte_toNat_mod {base : Byte} {n : Nat} (v : BitVec n) (hfit : base.toNat + 2 ^ n ≤ 256)
    (hal : base.toNat % 2 ^ n = 0) : (blockByte base v).toNat % 2 ^ n = v.toNat := by
  rw [blockByte_toNat_of_le v hfit, Nat.add_mod, hal, Nat.zero_add, Nat.mod_mod, Nat.mod_eq_of_lt v.isLt]

/-- A byte of a block has its operand in the low bits. -/
theorem extractLsb'_blockByte {base : Byte} {n : Nat} (v : BitVec n) (hfit : base.toNat + 2 ^ n ≤ 256 := by decide)
    (hal : base.toNat % 2 ^ n = 0 := by decide) : (blockByte base v).extractLsb' 0 n = v :=
  BitVec.eq_of_toNat_eq ((extractLsb'_zero_toNat _ n).trans (blockByte_toNat_mod v hfit hal))

/-! ### Operation words -/

theorem opWordOf_opcode (o : Byte) (r : BitVec 24) : (opWordOf o r).extractLsb' 0 8 = o :=
  extractLsb'_eq_of_div_mod (by rw [opWordOf_toNat]; omega)

theorem opWordOf_rest (o : Byte) (r : BitVec 24) : (opWordOf o r).extractLsb' 8 24 = r :=
  extractLsb'_eq_of_div_mod (by rw [opWordOf_toNat]; omega)

theorem immBits_toNat (imm : Byte) (ign : BitVec 16) : (immBits imm ign).toNat = imm.toNat + 256 * ign.toNat := by
  rw [immBits, BitVec.toNat_ofNat]
  omega

theorem opWordOf_immBits_imm (o imm : Byte) (ign : BitVec 16) :
    (opWordOf o (immBits imm ign)).extractLsb' 8 8 = imm :=
  extractLsb'_eq_of_div_mod (by rw [opWordOf_toNat, immBits_toNat]; omega)

theorem opWordOf_immBits_ign (o imm : Byte) (ign : BitVec 16) :
    (opWordOf o (immBits imm ign)).extractLsb' 16 16 = ign :=
  extractLsb'_eq_of_div_mod (by rw [opWordOf_toNat, immBits_toNat]; omega)

/-- An operation word is its opcode and the rest. -/
theorem opWordOf_extractLsb' (w : Word) : opWordOf (w.extractLsb' 0 8) (w.extractLsb' 8 24) = w := by
  refine BitVec.eq_of_toNat_eq ?_
  simp only [opWordOf_toNat, extractLsb'_toNat_eq_div_mod]
  omega

theorem immBits_extractLsb' (w : Word) : immBits (w.extractLsb' 8 8) (w.extractLsb' 16 16) = w.extractLsb' 8 24 := by
  refine BitVec.eq_of_toNat_eq ?_
  simp only [immBits_toNat, extractLsb'_toNat_eq_div_mod]
  omega

/-- The opcode map of 30_encoding.md R84 and R85, by the number of the opcode. -/
theorem decodeOp_eq_ranges {w : Word} {o : Byte} {x : Nat} {ign : BitVec 24} (ho : w.extractLsb' 0 8 = o)
    (hx : o.toNat = x) (hign : w.extractLsb' 8 24 = ign) : decodeOp w =
      if x = 0 then .nop ign
      else if x = 1 then .pushb (w.extractLsb' 8 8) (w.extractLsb' 16 16)
      else if x = 2 then .loadbuf ign
      else if x = 3 then .encode ign
      else if x = 4 then .decode ign
      else if x = 5 then .build ign
      else if x < 8 then .illegal06to07 (o.extractLsb' 0 1) ign
      else if x < 16 then .illegal08to0F (o.extractLsb' 0 3) ign
      else if x < 32 then .illegal10to1F (o.extractLsb' 0 4) ign
      else if x < 64 then .illegal20to3F (o.extractLsb' 0 5) ign
      else if x < 128 then .illegal40to7F (o.extractLsb' 0 6) ign
      else .illegal80toFF (o.extractLsb' 0 7) ign := by
  subst hx hign
  simp only [decodeOp, ho]
  iterate 6 refine ite_congr (propext BitVec.toNat_inj.symm) (fun _ => rfl) fun _ => ?_
  have h : 6 ≤ o.toNat := by omega
  iterate 5 refine ite_block_congr h rfl rfl rfl fun h => ?_
  rfl

/-- What an operation word decodes to encodes to that word (30_encoding.md R83 to R85). -/
theorem decodeOp_hasCode (w : Word) : HasCode (.opWord w) (decodeOp w) := by
  obtain ⟨o, ho⟩ : ∃ o, w.extractLsb' 0 8 = o := ⟨_, rfl⟩
  have hw {b : Byte} (hb : b = o) : Encoded.opWord (opWordOf b (w.extractLsb' 8 24)) = .opWord w := by
    rw [hb, ← ho, opWordOf_extractLsb']
  have hop {c : Byte} (h : o.toNat = c.toNat) : c = o := BitVec.eq_of_toNat_eq h.symm
  have himm : encode (.pushb (w.extractLsb' 8 8) (w.extractLsb' 16 16)) =
      .opWord (opWordOf 1 (w.extractLsb' 8 24)) := by
    rw [encode, immBits_extractLsb']
  rw [decodeOp_eq_ranges ho rfl rfl]
  refine iteInduction (motive := HasCode _) (fun h => ⟨rfl, hw (hop h)⟩) fun _ => ?_
  refine iteInduction (motive := HasCode _) (fun h => ⟨rfl, himm.trans (hw (hop h))⟩) fun _ => ?_
  iterate 4 refine iteInduction (motive := HasCode _) (fun h => ⟨rfl, hw (hop h)⟩) fun _ => ?_
  have hlo : ¬ o.toNat < 6 := by omega
  iterate 5
    refine iteInduction (motive := HasCode _)
      (fun hhi => ⟨rfl, hw (blockByte_extractLsb' (Nat.le_of_not_lt hlo) hhi)⟩) fun hlo => ?_
  exact ⟨rfl, hw (blockByte_extractLsb' (Nat.le_of_not_lt hlo) o.isLt)⟩

/-- The code of an operation decodes to it (30_encoding.md R83 to R85): the tests before its own fail, since its opcode
is past their blocks. -/
theorem decodeOp_eq_of_encode {i : Instr} {w : Word} (h : encode i = .opWord w) : decodeOp w = i := by
  obtain ⟨x, hx⟩ : ∃ x, (w.extractLsb' 0 8).toNat = x := ⟨_, rfl⟩
  rw [decodeOp_eq_ranges rfl hx rfl]
  cases i <;> cases h <;> rw [opWordOf_opcode] at hx ⊢ <;> rw [opWordOf_rest]
  case pushb =>
    rw [opWordOf_immBits_imm, opWordOf_immBits_ign]
    subst hx
    rfl
  case nop | loadbuf | encode | decode | build =>
    subst hx
    rfl
  case illegal06to07 lo _ | illegal08to0F lo _ | illegal10to1F lo _ | illegal20to3F lo _ | illegal40to7F lo _ =>
    obtain ⟨hlo, hhi⟩ := mem_block_of_blockByte hx
    iterate 6 refine (if_neg (Nat.ne_of_gt (Nat.lt_of_lt_of_le (by decide) hlo))).trans ?_
    repeat refine (ite_lt_of_block_le hlo).trans ?_
    refine (ite_lt_of_lt_block hhi).trans ?_
    congr 1
    exact extractLsb'_blockByte lo
  case illegal80toFF lo _ =>
    obtain ⟨hlo, -⟩ := mem_block_of_blockByte hx
    iterate 6 refine (if_neg (Nat.ne_of_gt (Nat.lt_of_lt_of_le (by decide) hlo))).trans ?_
    repeat refine (ite_lt_of_block_le hlo).trans ?_
    congr 1
    exact extractLsb'_blockByte lo

/-! ### Decode keys -/

/-- A key of a block of params is the block's first key with the key's low bits. -/
theorem keyOf_blockByte_low {cls base : Byte} {k : BitVec 16} {n lo : Nat} (hlo : lo ≤ k.toNat)
    (hhi : k.toNat < lo + 2 ^ n) (hcode : 256 * cls.toNat + base.toNat = lo := by rfl)
    (hfit : base.toNat + 2 ^ n ≤ 256 := by decide) (hal : 2 ^ n ∣ lo := by decide) :
    keyOf cls (blockByte base (k.extractLsb' 0 n)) = k := by
  refine BitVec.eq_of_toNat_eq ?_
  rw [keyOf_toNat, blockByte_toNat_of_le _ hfit, ← Nat.add_assoc, hcode, extractLsb'_zero_toNat,
    add_mod_of_mem_block hlo hhi hal]

/-- A key of a block of classes is the block's first class with the class's low bits, and the param. -/
theorem keyOf_blockByte_high {base : Byte} {k : BitVec 16} {n lo : Nat} (hlo : lo ≤ k.toNat)
    (hhi : k.toNat < lo + 256 * 2 ^ n) (hcode : 256 * base.toNat = lo := by rfl)
    (hfit : base.toNat + 2 ^ n ≤ 256 := by decide) (hal : 2 ^ n ∣ base.toNat := by decide) :
    keyOf (blockByte base (k.extractLsb' 8 n)) (k.extractLsb' 0 8) = k := by
  have hdiv : k.toNat / 2 ^ 8 < base.toNat + 2 ^ n := Nat.div_lt_of_lt_mul (by omega)
  refine BitVec.eq_of_toNat_eq ?_
  rw [keyOf_toNat, blockByte_toNat_of_le _ hfit, extractLsb'_toNat_eq_div_mod, extractLsb'_zero_toNat,
    add_mod_of_mem_block (by omega) hdiv hal]
  exact Nat.div_add_mod k.toNat 256

/-- The keys of a block of params run from its first key on. -/
theorem mem_block_of_keyOf_low {cls base : Byte} {n x : Nat} {v : BitVec n}
    (hx : (keyOf cls (blockByte base v)).toNat = x) (hfit : base.toNat + 2 ^ n ≤ 256 := by decide) :
    256 * cls.toNat + base.toNat ≤ x ∧ x < 256 * cls.toNat + base.toNat + 2 ^ n := by
  obtain ⟨hlo, hhi⟩ := mem_block_of_blockByte (v := v) rfl hfit
  rw [keyOf_toNat] at hx
  omega

/-- The keys of a block of classes run from the first class's first key on. -/
theorem mem_block_of_keyOf_high {base param : Byte} {n x : Nat} {v : BitVec n}
    (hx : (keyOf (blockByte base v) param).toNat = x) (hfit : base.toNat + 2 ^ n ≤ 256 := by decide) :
    256 * base.toNat ≤ x ∧ x < 256 * (base.toNat + 2 ^ n) := by
  obtain ⟨hlo, hhi⟩ := mem_block_of_blockByte (v := v) rfl hfit
  have hparam := param.isLt
  rw [keyOf_toNat] at hx
  omega

/-- The keys of one class from a param on. -/
theorem mem_block_of_keyOf {cls param : Byte} {a x : Nat} (hx : (keyOf cls param).toNat = x) (ha : a ≤ param.toNat) :
    256 * cls.toNat + a ≤ x ∧ x < 256 * (cls.toNat + 1) := by
  have hparam := param.isLt
  rw [keyOf_toNat] at hx
  omega

theorem extractLsb'_keyOf_param (cls param : Byte) : (keyOf cls param).extractLsb' 0 8 = param :=
  extractLsb'_eq_of_div_mod (by rw [keyOf_toNat]; omega)

/-- A key of a block of params has its operand in the low bits. -/
theorem extractLsb'_keyOf_low {base : Byte} {n : Nat} (cls : Byte) (v : BitVec n)
    (hfit : base.toNat + 2 ^ n ≤ 256 := by decide) (hal : base.toNat % 2 ^ n = 0 := by decide)
    (hn : 2 ^ n ∣ 256 := by decide) : (keyOf cls (blockByte base v)).extractLsb' 0 n = v := by
  refine BitVec.eq_of_toNat_eq ?_
  obtain ⟨q, hq⟩ := hn
  rw [extractLsb'_zero_toNat, keyOf_toNat, hq, Nat.mul_assoc, Nat.mul_add_mod, blockByte_toNat_mod v hfit hal]

/-- A key of a block of classes has its operand in the low bits of the class. -/
theorem extractLsb'_keyOf_high {base : Byte} {n : Nat} (v : BitVec n) (param : Byte)
    (hfit : base.toNat + 2 ^ n ≤ 256 := by decide) (hal : base.toNat % 2 ^ n = 0 := by decide) :
    (keyOf (blockByte base v) param).extractLsb' 8 n = v := by
  have hcls : (keyOf (blockByte base v) param).toNat / 2 ^ 8 = (blockByte base v).toNat := by
    rw [keyOf_toNat]
    omega
  exact extractLsb'_eq_of_div_mod (by rw [hcls, blockByte_toNat_mod v hfit hal])

theorem wf_d2MoodLo_iff (param : Byte) : (Instr.d2MoodLo param).wf = true ↔ 2 ≤ param.toNat ∧ param.toNat ≤ 129 := by
  simp [Instr.wf]

theorem wf_d2MoodHi_iff (param : Byte) : (Instr.d2MoodHi param).wf = true ↔ 130 ≤ param.toNat := by
  simp [Instr.wf]

/-- The decode keys of 30_encoding.md R93 as ranges of the key. -/
theorem decodeKey_eq_ranges {k : BitVec 16} {x : Nat} {param : Byte} (hx : k.toNat = x)
    (hparam : k.extractLsb' 0 8 = param) : decodeKey k =
    if x < 128 then .d0Off (k.extractLsb' 0 7)
    else if x < 160 then .d0Dim (k.extractLsb' 0 5)
    else if x < 192 then .d0Decrease (k.extractLsb' 0 5)
    else if x < 256 then .d0AllOff (k.extractLsb' 0 6)
    else if x < 288 then .d1On (k.extractLsb' 0 5)
    else if x < 320 then .d1Dim32 (k.extractLsb' 0 5)
    else if x < 352 then .d1Dim64 (k.extractLsb' 0 5)
    else if x < 384 then .d1Dim96 (k.extractLsb' 0 5)
    else if x < 416 then .d1Dim128 (k.extractLsb' 0 5)
    else if x < 448 then .d1Increase (k.extractLsb' 0 5)
    else if x < 480 then .d1AllOn192 (k.extractLsb' 0 5)
    else if x < 512 then .d1AllOn224 (k.extractLsb' 0 5)
    else if x < 514 then .d2Err (k.extractLsb' 0 1)
    else if x < 768 then if param.toNat ≤ 129 then .d2MoodLo param else .d2MoodHi param
    else if x < 1024 then .dxErr03 param
    else if x < 2048 then .dxErr04to07 (k.extractLsb' 8 2) param
    else if x < 4096 then .dxErr08to0F (k.extractLsb' 8 3) param
    else if x < 8192 then .dxErr10to1F (k.extractLsb' 8 4) param
    else if x < 16384 then .dxErr20to3F (k.extractLsb' 8 5) param
    else if x < 32768 then .dxErr40to7F (k.extractLsb' 8 6) param
    else .dxErr80toFF (k.extractLsb' 8 7) param := by
  subst hx hparam
  refine ite_block_congr (Nat.zero_le _) rfl rfl rfl fun h => ?_
  iterate 12 refine ite_block_congr h rfl rfl rfl fun h => ?_
  refine ite_block_congr (lo := 512) (by omega) rfl rfl rfl fun h => ?_
  iterate 6 refine ite_block_congr h rfl rfl rfl fun h => ?_
  rfl

/-- What a key decodes to is well formed and encodes to that key (30_encoding.md R93). -/
theorem decodeKey_hasCode (k : BitVec 16) : HasCode (.decodeKey k) (decodeKey k) := by
  obtain ⟨param, hparam⟩ : ∃ p, k.extractLsb' 0 8 = p := ⟨_, rfl⟩
  have hnat : param.toNat = k.toNat % 256 := hparam ▸ extractLsb'_zero_toNat k 8
  have hcls {c : Byte} (h : k.toNat / 256 = c.toNat) : keyOf c param = k :=
    BitVec.eq_of_toNat_eq (by rw [keyOf_toNat, ← h, hnat, Nat.div_add_mod])
  rw [decodeKey_eq_ranges rfl hparam]
  have hlo : ¬ k.toNat < 0 := Nat.not_lt_zero _
  iterate 13
    refine iteInduction (motive := HasCode _)
      (fun hhi => ⟨rfl, congrArg _ (keyOf_blockByte_low (Nat.le_of_not_lt hlo) hhi)⟩) fun hlo => ?_
  refine iteInduction (motive := HasCode _) (fun hhi => ?_) fun hlo => ?_
  · have hkey : keyOf 2 param = k := hcls (show _ = 2 by omega)
    have hp2 : 2 ≤ param.toNat := by omega
    exact iteInduction (motive := HasCode _)
      (fun hp => ⟨(wf_d2MoodLo_iff _).2 ⟨hp2, hp⟩, congrArg _ hkey⟩)
      fun hp => ⟨(wf_d2MoodHi_iff _).2 (Nat.lt_of_not_le hp), congrArg _ hkey⟩
  refine iteInduction (motive := HasCode _) (fun hhi => ⟨rfl, congrArg _ (hcls (show _ = 3 by omega))⟩) fun hlo => ?_
  subst hparam
  iterate 5
    refine iteInduction (motive := HasCode _)
      (fun hhi => ⟨rfl, congrArg _ (keyOf_blockByte_high (Nat.le_of_not_lt hlo) hhi)⟩) fun hlo => ?_
  exact ⟨rfl, congrArg _ (keyOf_blockByte_high (Nat.le_of_not_lt hlo) k.isLt)⟩

/-- The key of a well-formed row decodes to the row (30_encoding.md R93): the tests before its own fail, since its key
is past their blocks. -/
theorem decodeKey_eq_of_hasCode {i : Instr} {k : BitVec 16} (h : HasCode (.decodeKey k) i) : decodeKey k = i := by
  obtain ⟨hwf, hcode⟩ := h
  obtain ⟨x, hx⟩ : ∃ x, k.toNat = x := ⟨_, rfl⟩
  rw [decodeKey_eq_ranges hx rfl]
  cases i <;> cases hcode <;> rw [extractLsb'_keyOf_param]
  case d0Off p | d0Dim p | d0Decrease p | d0AllOff p | d1On p | d1Dim32 p | d1Dim64 p | d1Dim96 p | d1Dim128 p |
      d1Increase p | d1AllOn192 p | d1AllOn224 p | d2Err p =>
    obtain ⟨hlo, hhi⟩ := mem_block_of_keyOf_low hx
    repeat refine (ite_lt_of_block_le hlo).trans ?_
    refine (ite_lt_of_lt_block hhi).trans ?_
    congr 1
    exact extractLsb'_keyOf_low _ p
  case dxErr04to07 c p | dxErr08to0F c p | dxErr10to1F c p | dxErr20to3F c p | dxErr40to7F c p =>
    obtain ⟨hlo, hhi⟩ := mem_block_of_keyOf_high hx
    repeat refine (ite_lt_of_block_le hlo).trans ?_
    refine (ite_lt_of_lt_block hhi).trans ?_
    congr 1
    exact extractLsb'_keyOf_high c p
  case dxErr80toFF c p =>
    obtain ⟨hlo, -⟩ := mem_block_of_keyOf_high hx
    repeat refine (ite_lt_of_block_le hlo).trans ?_
    congr 1
    exact extractLsb'_keyOf_high c p
  case d2MoodLo p =>
    obtain ⟨hp, hp'⟩ := (wf_d2MoodLo_iff p).1 hwf
    obtain ⟨hlo, hhi⟩ := mem_block_of_keyOf hx hp
    repeat refine (ite_lt_of_block_le hlo).trans ?_
    exact (ite_lt_of_lt_block hhi).trans (if_pos hp')
  case d2MoodHi p =>
    have hp := (wf_d2MoodHi_iff p).1 hwf
    obtain ⟨hlo, hhi⟩ := mem_block_of_keyOf hx hp
    repeat refine (ite_lt_of_block_le hlo).trans ?_
    exact (ite_lt_of_lt_block hhi).trans (if_neg (Nat.not_le.2 hp))
  case dxErr03 p =>
    obtain ⟨hlo, hhi⟩ := mem_block_of_keyOf hx (Nat.zero_le _)
    repeat refine (ite_lt_of_block_le hlo).trans ?_
    exact ite_lt_of_lt_block hhi

/-! ### Kinds and builder states -/

theorem decodeKind_hasCode (k : BitVec 4) : HasCode (.cmdKind k) (decodeKind k) := by
  unfold HasCode
  revert k
  decide

theorem decodeKind_eq_of_encode {i : Instr} {k : BitVec 4} (h : encode i = .cmdKind k) : decodeKind k = i := by
  cases i <;> cases h
  case encUnmapped lo =>
    revert lo
    decide
  all_goals rfl

/-- Of the state codes only 7 decodes to no row (30_encoding.md R89). -/
theorem decodeState_hasCode (c : BitVec 3) : (∃ i, decodeState c = .ok i ∧ HasCode (.builderState c) i) ∨ c = 7 := by
  have hcodes : c = 0 ∨ c = 1 ∨ c = 2 ∨ c = 3 ∨ c = 4 ∨ c = 5 ∨ c = 6 ∨ c = 7 := by
    revert c
    decide
  obtain rfl | rfl | rfl | rfl | rfl | rfl | rfl | rfl := hcodes
  on_goal 8 => exact .inr rfl
  all_goals exact .inl ⟨_, rfl, rfl, rfl⟩

theorem decodeState_eq_of_encode {i : Instr} {c : BitVec 3} (h : encode i = .builderState c) :
    decodeState c = .ok i := by
  cases i <;> cases h <;> rfl

/-! ### The round trip -/

/-- Decoding gives the instruction that has the code. -/
theorem decode_eq_of_hasCode {e : Encoded} {i : Instr} (h : HasCode e i) : decode e = .ok i := by
  cases e with
  | opWord w => exact congrArg Except.ok (decodeOp_eq_of_encode h.2)
  | cmdKind k => exact congrArg Except.ok (decodeKind_eq_of_encode h.2)
  | decodeKey k => exact congrArg Except.ok (decodeKey_eq_of_hasCode h)
  | builderState c => exact decodeState_eq_of_encode h.2

/-- A code decodes to an instruction that has it, but for builder state 7. -/
theorem decode_hasCode (e : Encoded) : (∃ i, decode e = .ok i ∧ HasCode e i) ∨ e = .builderState 7 := by
  cases e with
  | opWord w => exact .inl ⟨_, rfl, decodeOp_hasCode w⟩
  | cmdKind k => exact .inl ⟨_, rfl, decodeKind_hasCode k⟩
  | decodeKey k => exact .inl ⟨_, rfl, decodeKey_hasCode k⟩
  | builderState c => exact (decodeState_hasCode c).imp id (congrArg _)

/-- Settles O1, format by format, each row of a format by the range that its codes are. -/
theorem encodeThenDecodeIsIdentity : Obligations.EncodeThenDecodeIsIdentity :=
  fun _ hwf => decode_eq_of_hasCode ⟨hwf, rfl⟩

/-- Settles O2: of each format every code has a row, but builder state 7, which is refused. -/
theorem decodedCodeEncodesBack : Obligations.DecodedCodeEncodesBack := by
  refine ⟨fun e i h => ?_, fun e => (decode_hasCode e).imp_left fun ⟨i, hi, _⟩ => ⟨i, hi⟩⟩
  obtain ⟨j, hj, hcode⟩ | rfl := decode_hasCode e
  · cases hj.symm.trans h
    exact hcode
  · cases h

/-- Settles O5, each code by the decoder's tests on it. -/
theorem codesFromTheSpecDecode : Obligations.CodesFromTheSpecDecode :=
  ⟨by decide, by decide, by decide, by decide, by decide, by decide, rfl⟩

end Sys2Proof.Machine

/-! ## Operation words: what they do with BUSY 0 -/

namespace Sys2Proof.Machine

open Sys2Proof.Claims

/-- What an opcode does once it is issued, PUSHB with its IMM8 (30_encoding.md R84, 40_buffer_ops.md R120, R124). -/
def runOpcode (o imm : Byte) (s : State) : Result :=
  if o.toNat = 0 then .next s
  else if o.toNat = 1 then .next (pushByte imm s)
  else if o.toNat = 2 then .next (loadBuffer s)
  else if o.toNat = 3 then encodeByKind s
  else if o.toNat = 4 then decodeBuffer s
  else if o.toNat = 5 then .next (buildWave s)
  else .next (illegal o s)

/-- A reserved opcode is illegal (40_buffer_ops.md R124). -/
theorem runOpcode_reserved {o : Byte} (ho : 6 ≤ o.toNat) (imm : Byte) (s : State) :
    runOpcode o imm s = .next (illegal o s) := by
  simp (disch := omega) only [runOpcode, if_neg]

/-- IMM8 matters to PUSHB alone (30_encoding.md R86). -/
theorem runOpcode_congr {o imm imm' : Byte} (h : o = 1 → imm = imm') (s : State) :
    runOpcode o imm s = runOpcode o imm' s := by
  by_cases ho : o = 1
  · rw [h ho]
  · have hn : o.toNat ≠ 1 := fun e => ho (BitVec.eq_of_toNat_eq e)
    simp only [runOpcode, if_neg hn]

theorem exec_nop_idle (ign : BitVec 24) {s : State} (hb : s.busy = false) : exec (.nop ign) s = .next s := by
  rw [exec, execNop, issue_idle _ _ _ hb]

theorem exec_pushb_idle (imm : Byte) (ign : BitVec 16) {s : State} (hb : s.busy = false) :
    exec (.pushb imm ign) s = .next (pushByte imm s) := by
  rw [exec, execPushb, issue_idle _ _ _ hb]

theorem exec_loadbuf_idle (ign : BitVec 24) {s : State} (hb : s.busy = false) :
    exec (.loadbuf ign) s = .next (loadBuffer s) := by
  rw [exec, execLoadbuf, issue_idle _ _ _ hb]

theorem exec_encode_idle (ign : BitVec 24) {s : State} (hb : s.busy = false) :
    exec (.encode ign) s = encodeByKind s := by
  rw [exec, execEncode, issue_idle _ _ _ hb]

theorem exec_decode_idle (ign : BitVec 24) {s : State} (hb : s.busy = false) :
    exec (.decode ign) s = decodeBuffer s := by
  rw [exec, execDecode, issue_idle _ _ _ hb]

theorem exec_build_idle (ign : BitVec 24) {s : State} (hb : s.busy = false) :
    exec (.build ign) s = .next (buildWave s) := by
  rw [exec, execBuild, issue_idle _ _ _ hb]

/-- With BUSY 0 an operation word runs its opcode (20_memory.md R64). -/
theorem exec_of_encode_opWord {i : Instr} {w : Word} {s : State} (h : encode i = .opWord w) (hb : s.busy = false) :
    exec i s = runOpcode (w.extractLsb' 0 8) (w.extractLsb' 8 8) s := by
  obtain ⟨x, hx⟩ : ∃ x, (w.extractLsb' 0 8).toNat = x := ⟨_, rfl⟩
  cases i <;> cases h <;> rw [opWordOf_opcode] at hx ⊢
  case nop ign => exact exec_nop_idle ign hb
  case pushb imm ign =>
    rw [opWordOf_immBits_imm]
    exact exec_pushb_idle imm ign hb
  case loadbuf ign => exact exec_loadbuf_idle ign hb
  case encode ign => exact exec_encode_idle ign hb
  case decode ign => exact exec_decode_idle ign hb
  case build ign => exact exec_build_idle ign hb
  case illegal06to07 | illegal08to0F | illegal10to1F | illegal20to3F | illegal40to7F | illegal80toFF =>
    obtain ⟨hlo, -⟩ := mem_block_of_blockByte hx
    rw [runOpcode_reserved (hx ▸ Nat.le_trans (by decide) hlo)]
    simp [exec, execIllegal06to07, execIllegal08to0F, execIllegal10to1F, execIllegal20to3F, execIllegal40to7F,
      execIllegal80toFF, hb]

theorem exec_decodeOp_idle (w : Word) {s : State} (hb : s.busy = false) :
    exec (decodeOp w) s = runOpcode (w.extractLsb' 0 8) (w.extractLsb' 8 8) s :=
  exec_of_encode_opWord (decodeOp_hasCode w).2 hb

theorem illegal_eq_illegalRecorded (o : Byte) (s : State) : illegal o s = illegalRecorded o.toNat s := rfl

/-- Settles O3, by the opcode map as ranges and by what a reserved opcode runs. -/
theorem operationWordFollowsTheOpcodeMap : Obligations.OperationWordFollowsTheOpcodeMap := by
  intro w
  have hmap := decodeOp_eq_ranges (w := w) rfl rfl rfl
  refine ⟨fun h => ?_, fun h => ?_, fun h => ?_, fun h => ?_, fun h => ?_, fun h => ?_, fun h s hb => ?_⟩
  on_goal 7 => rw [exec_decodeOp_idle w hb, runOpcode_reserved h, illegal_eq_illegalRecorded]
  all_goals simp [hmap, h]

/-- Settles O4: with BUSY 0 a word runs its opcode, and IMM8 matters to PUSHB alone. -/
theorem ignoredBitsHaveNoEffect : Obligations.IgnoredBitsHaveNoEffect := by
  intro w w' s hb hop himm
  rw [exec_decodeOp_idle w hb, exec_decodeOp_idle w' hb, ← hop, runOpcode_congr himm]

/-! ## ENCODE -/

/-! ### The encode table -/

theorem paramHigh_eq (p : Byte) : paramHigh p = BitVec.ofNat 8 (p.toNat / 16) := by
  refine BitVec.eq_of_toNat_eq ?_
  have hp := p.isLt
  rw [paramHigh, BitVec.toNat_ushiftRight, Nat.shiftRight_eq_div_pow, BitVec.toNat_ofNat, Nat.mod_eq_of_lt (by omega)]

theorem paramLow_eq (p : Byte) : paramLow p = BitVec.ofNat 8 (p.toNat % 16) := by
  refine BitVec.eq_of_toNat_eq ?_
  rw [paramLow, BitVec.toNat_and, BitVec.toNat_ofNat, Nat.mod_eq_of_lt (by omega)]
  exact Nat.and_two_pow_sub_one_eq_mod p.toNat 4

theorem encodeWith_eq_encoded (cls p : Byte) (s : State) : encodeWith cls p s = encoded cls.toNat p.toNat s := by
  rw [encoded, ← paramHigh_eq, ← paramLow_eq, BitVec.ofNat_toNat, BitVec.setWidth_eq]
  rfl

theorem encTable_of_le {k : Nat} (hk : 8 ≤ k) (v : Nat) : encTable k v = none := by
  obtain ⟨m, rfl⟩ := Nat.exists_eq_add_of_le' hk
  rfl

/-- The row of a kind writes the buffer of its kind's line of the table; the row of the kinds 8 to 15 records the kind
(41_codec.md R141 to R149). -/
theorem exec_of_encode_cmdKind {i : Instr} {k : BitVec 4} (h : encode i = .cmdKind k) (s : State) : exec i s =
    match encTable k.toNat s.cmdValue.toNat with
    | some (cls, p) => .next (encoded cls p s)
    | none => .next (encodingErrorRecorded k.toNat s) := by
  cases i <;> cases h
  case encUnmapped lo =>
    have hk : (BitVec.ofNat 4 (8 + lo.toNat)).toNat = 8 + lo.toNat :=
      Nat.mod_eq_of_lt (Nat.add_lt_add_left lo.isLt 8)
    have hbyte : (blockByte 8 lo).toNat = 8 + lo.toNat := blockByte_toNat_of_le lo (by decide)
    rw [hk, encTable_of_le (Nat.le_add_right 8 _)]
    exact congrArg (fun x => Host.Outcome.next (encodingErrorRecorded x s)) hbyte
  all_goals exact congrArg Host.Outcome.next (encodeWith_eq_encoded _ _ s)

/-- ENCODE tests the kind as the decoder of kinds does (30_encoding.md R87). -/
theorem encodeByKind_eq_exec_decodeKind (s : State) : encodeByKind s = exec (decodeKind s.cmdKind) s := by
  simp only [decodeKind, apply_ite (fun i => exec i s)]
  rfl

/-- Settles O19, by the decoder of kinds. -/
theorem encodeRunsTheRowOfItsKind : Obligations.EncodeRunsTheRowOfItsKind := by
  intro ign s hb
  rw [exec_encode_idle ign hb, encodeByKind_eq_exec_decodeKind]

/-- Settles O17: ENCODE runs the row of its kind, and each row is its line of the table. -/
theorem encodeFollowsTheEncodeTable : Obligations.EncodeFollowsTheEncodeTable := by
  intro ign s hb
  exact (encodeRunsTheRowOfItsKind ign s hb).trans (exec_of_encode_cmdKind (decodeKind_hasCode s.cmdKind).2 s)

/-! ## DECODE -/

/-! ### The rows and their results -/

theorem blockByte_zero {n : Nat} (v : BitVec n) : blockByte 0 v = BitVec.ofNat 8 v.toNat :=
  congrArg (BitVec.ofNat 8) (Nat.zero_add v.toNat)

/-- The operand is the param less the row's base. -/
theorem blockByte_sub_base (base : Byte) {n : Nat} (v : BitVec n) :
    blockByte base v - base = BitVec.ofNat 8 v.toNat := by
  rw [blockByte, BitVec.ofNat_add, BitVec.ofNat_toNat, BitVec.setWidth_eq, BitVec.add_comm, BitVec.add_sub_cancel]

/-- A row with a result: the numbers of its key and of what it writes (41_codec.md R161 to R173). -/
theorem resultRow {i : Instr} {s : State} {cls base value : Byte} {kind : BitVec 4} {n c p k x : Nat} {v : BitVec n}
    (hcode : HasCode (.decodeKey (keyOf cls (blockByte base v))) i)
    (hexec : exec i s = .next (decodeOk cls (blockByte base v) kind value s)) (hp : base.toNat + v.toNat = p)
    (hvalue : value = BitVec.ofNat 8 x) (hcls : cls = BitVec.ofNat 8 c := by rfl)
    (hkind : kind = BitVec.ofNat 4 k := by rfl) :
    decodeKey (keyOf cls (BitVec.ofNat 8 p)) = i ∧ exec i s = .next (decodedAs c p k x s) := by
  subst hp hvalue hcls hkind
  exact ⟨decodeKey_eq_of_hasCode hcode, hexec⟩

/-- Settles O21: each key is the code of its row, and the row's writes are the rule's. -/
theorem decodeRowsOfClasses0And1 : Obligations.DecodeRowsOfClasses0And1 := by
  intro s
  have hcode {i : Instr} (hwf : i.wf = true) : HasCode (encode i) i := ⟨hwf, rfl⟩
  exact ⟨fun p => resultRow (base := 0) (hcode rfl) rfl (Nat.zero_add _) rfl,
    fun p => resultRow (hcode rfl) rfl rfl (blockByte_sub_base 128 p),
    fun p => resultRow (hcode rfl) rfl rfl rfl,
    fun p => resultRow (hcode rfl) rfl rfl rfl,
    fun p => resultRow (base := 0) (hcode rfl) rfl (Nat.zero_add _) rfl,
    fun p => resultRow (hcode rfl) rfl rfl (blockByte_sub_base 32 p),
    fun p => resultRow (hcode rfl) rfl rfl (blockByte_sub_base 64 p),
    fun p => resultRow (hcode rfl) rfl rfl (blockByte_sub_base 96 p),
    fun p => resultRow (hcode rfl) rfl rfl (blockByte_sub_base 128 p),
    fun p => resultRow (hcode rfl) rfl rfl rfl,
    fun p => resultRow (hcode rfl) rfl rfl (blockByte_sub_base 192 p),
    fun p => resultRow (hcode rfl) rfl rfl (blockByte_sub_base 224 p)⟩

/-- A mood row (41_codec.md R174, R175): its value is the param less `b`. -/
theorem moodRow {i : Instr} {s : State} {param b : Byte} {m : Nat} (hb : b.toNat = m) (hm : m ≤ param.toNat)
    (hwf : i.wf = true) (hcode : encode i = .decodeKey (keyOf 2 param))
    (hexec : exec i s = .next (decodeOk 2 param kindMood (param - b) s)) :
    decodeKey (keyOf 2 param) = i ∧ exec i s = .next (decodedAs 2 param.toNat 5 (param.toNat - m) s) := by
  subst hb
  refine ⟨decodeKey_eq_of_hasCode ⟨hwf, hcode⟩, hexec.trans (congrArg _ ?_)⟩
  rw [← BitVec.toNat_sub_of_le (BitVec.le_def.2 hm)]
  simp only [decodedAs, BitVec.ofNat_toNat, BitVec.setWidth_eq]
  rfl

/-- A row that fails: the numbers of its key and of what it records (41_codec.md R176, R177). -/
theorem errorRow {i : Instr} {s : State} {cls param : Byte} {c p : Nat}
    (hcode : HasCode (.decodeKey (keyOf cls param)) i) (hexec : exec i s = .next (decodeFail cls param s))
    (hcls : cls.toNat = c) (hparam : param.toNat = p) :
    decodeKey (keyOf cls param) = i ∧ exec i s = .next (decodeErrorRecorded c p s) := by
  subst hcls hparam
  refine ⟨decodeKey_eq_of_hasCode hcode, hexec.trans (congrArg _ ?_)⟩
  simp only [decodeErrorRecorded, BitVec.ofNat_toNat, BitVec.setWidth_eq]
  rfl

/-- Settles O22: each key is the code of its row, and the row's writes are the rule's. -/
theorem decodeRowsOfMoodAndErrors : Obligations.DecodeRowsOfMoodAndErrors := by
  intro s
  have hcode {i : Instr} (hwf : i.wf = true) : HasCode (encode i) i := ⟨hwf, rfl⟩
  refine ⟨fun p hlo hhi => moodRow (b := 1) rfl (Nat.le_of_succ_le hlo) ((wf_d2MoodLo_iff p).2 ⟨hlo, hhi⟩) rfl rfl,
    fun p hlo => moodRow (b := 129) rfl (Nat.le_of_succ_le hlo) ((wf_d2MoodHi_iff p).2 hlo) rfl rfl,
    fun p => ?_,
    fun p => errorRow (hcode rfl) rfl rfl rfl,
    fun c p => errorRow (hcode rfl) rfl (blockByte_toNat_of_le (base := 4) c (by decide)) rfl,
    fun c p => errorRow (hcode rfl) rfl (blockByte_toNat_of_le (base := 8) c (by decide)) rfl,
    fun c p => errorRow (hcode rfl) rfl (blockByte_toNat_of_le (base := 16) c (by decide)) rfl,
    fun c p => errorRow (hcode rfl) rfl (blockByte_toNat_of_le (base := 32) c (by decide)) rfl,
    fun c p => errorRow (hcode rfl) rfl (blockByte_toNat_of_le (base := 64) c (by decide)) rfl,
    fun c p => errorRow (hcode rfl) rfl (blockByte_toNat_of_le (base := 128) c (by decide)) rfl⟩
  rw [← blockByte_zero]
  exact errorRow (hcode rfl) rfl rfl ((blockByte_toNat_of_le p (by decide)).trans (Nat.zero_add _))

/-! ### DECODE runs a row -/

/-- A param of a block selects the block's row of its class. -/
theorem exec_paramRow {cls p : Byte} {n : Nat} {s : State} (row : BitVec n → Instr) (base : Byte)
    (hlo : base.toNat ≤ p.toNat) (hhi : p.toNat < base.toNat + 2 ^ n)
    (hrow : ∀ v, HasCode (.decodeKey (keyOf cls (blockByte base v))) (row v) := by exact fun _ => ⟨rfl, rfl⟩)
    (hal : 2 ^ n ∣ base.toNat := by decide) :
    exec (row (p.extractLsb' 0 n)) s = exec (decodeKey (keyOf cls p)) s := by
  have hcode := hrow (p.extractLsb' 0 n)
  rw [blockByte_extractLsb' hlo hhi hal] at hcode
  rw [decodeKey_eq_of_hasCode hcode]

/-- A class of a block selects the block's row. -/
theorem exec_classRow {cls p : Byte} {n : Nat} {s : State} (row : BitVec n → Byte → Instr) (base : Byte)
    (hlo : base.toNat ≤ cls.toNat) (hhi : cls.toNat < base.toNat + 2 ^ n)
    (hrow : ∀ v, HasCode (.decodeKey (keyOf (blockByte base v) p)) (row v p) := by exact fun _ => ⟨rfl, rfl⟩)
    (hal : 2 ^ n ∣ base.toNat := by decide) :
    exec (row (cls.extractLsb' 0 n) p) s = exec (decodeKey (keyOf cls p)) s := by
  have hcode := hrow (cls.extractLsb' 0 n)
  rw [blockByte_extractLsb' hlo hhi hal] at hcode
  rw [decodeKey_eq_of_hasCode hcode]

theorem classify0_eq (p : Byte) (s : State) : classify0 p s = exec (decodeKey (keyOf 0 p)) s := by
  unfold classify0
  split_ifs with h127 h159 h191
  · exact exec_paramRow .d0Off 0 (Nat.zero_le _) (Nat.lt_succ_of_le h127)
  · exact exec_paramRow .d0Dim 128 (Nat.lt_of_not_le h127) (Nat.lt_succ_of_le h159)
  · exact exec_paramRow .d0Decrease 160 (Nat.lt_of_not_le h159) (Nat.lt_succ_of_le h191)
  · exact exec_paramRow .d0AllOff 192 (Nat.lt_of_not_le h191) p.isLt

theorem classify1_eq (p : Byte) (s : State) : classify1 p s = exec (decodeKey (keyOf 1 p)) s := by
  unfold classify1
  split_ifs with h31 h63 h95 h127 h159 h191 h223
  · exact exec_paramRow .d1On 0 (Nat.zero_le _) (Nat.lt_succ_of_le h31)
  · exact exec_paramRow .d1Dim32 32 (Nat.lt_of_not_le h31) (Nat.lt_succ_of_le h63)
  · exact exec_paramRow .d1Dim64 64 (Nat.lt_of_not_le h63) (Nat.lt_succ_of_le h95)
  · exact exec_paramRow .d1Dim96 96 (Nat.lt_of_not_le h95) (Nat.lt_succ_of_le h127)
  · exact exec_paramRow .d1Dim128 128 (Nat.lt_of_not_le h127) (Nat.lt_succ_of_le h159)
  · exact exec_paramRow .d1Increase 160 (Nat.lt_of_not_le h159) (Nat.lt_succ_of_le h191)
  · exact exec_paramRow .d1AllOn192 192 (Nat.lt_of_not_le h191) (Nat.lt_succ_of_le h223)
  · exact exec_paramRow .d1AllOn224 224 (Nat.lt_of_not_le h223) p.isLt

theorem classify2_eq (p : Byte) (s : State) : classify2 p s = exec (decodeKey (keyOf 2 p)) s := by
  unfold classify2
  split_ifs with h1 h129
  · exact exec_paramRow .d2Err 0 (Nat.zero_le _) (Nat.lt_succ_of_le h1)
  · rw [decodeKey_eq_of_hasCode ⟨(wf_d2MoodLo_iff p).2 ⟨Nat.lt_of_not_le h1, h129⟩, rfl⟩]
    rfl
  · rw [decodeKey_eq_of_hasCode ⟨(wf_d2MoodHi_iff p).2 (Nat.lt_of_not_le h129), rfl⟩]
    rfl

theorem classifyOther_eq {cls : Byte} (hcls : 3 ≤ cls.toNat) (p : Byte) (s : State) :
    classifyOther cls p s = exec (decodeKey (keyOf cls p)) s := by
  unfold classifyOther
  split_ifs with h3 h7 h15 h31 h63 h127
  · obtain rfl : 3 = cls := BitVec.eq_of_toNat_eq (Nat.le_antisymm hcls h3)
    rw [decodeKey_eq_of_hasCode (i := .dxErr03 p) ⟨rfl, rfl⟩]
    rfl
  · exact exec_classRow .dxErr04to07 4 (Nat.lt_of_not_le h3) (Nat.lt_succ_of_le h7)
  · exact exec_classRow .dxErr08to0F 8 (Nat.lt_of_not_le h7) (Nat.lt_succ_of_le h15)
  · exact exec_classRow .dxErr10to1F 16 (Nat.lt_of_not_le h15) (Nat.lt_succ_of_le h31)
  · exact exec_classRow .dxErr20to3F 32 (Nat.lt_of_not_le h31) (Nat.lt_succ_of_le h63)
  · exact exec_classRow .dxErr40to7F 64 (Nat.lt_of_not_le h63) (Nat.lt_succ_of_le h127)
  · exact exec_classRow .dxErr80toFF 128 (Nat.lt_of_not_le h127) cls.isLt

/-- Settles O23: the ranges that DECODE tests are those of the decoder of keys, class by class. -/
theorem decodeRunsTheRowOfItsKey : Obligations.DecodeRunsTheRowOfItsKey := by
  intro ign s hb hv
  rw [exec_decode_idle ign hb, decodeBuffer, if_neg (by simp [hv])]
  generalize paramOf s.buf = p
  split_ifs with h0 h1 h2
  · rw [h0, classify0_eq]
  · rw [h1, classify1_eq]
  · rw [h2, classify2_eq]
  · exact classifyOther_eq (by bv_omega) p s

/-! ## The decode outputs -/

/-- An instruction that is no builder row leaves the decode outputs, or is a DECODE that writes a kind 0 to 7 or NONE
(30_encoding.md R88, 10_state.md R31, R32). -/
theorem OpEffect.decodeOutputsLegal {s t : State} {i : Instr} (he : OpEffect s i t) (h : DecodeOutputsLegal s) :
    DecodeOutputsLegal t := by
  cases he with
  | decoded hkind => exact hkind
  | decodeFailed => exact ⟨rfl, rfl⟩
  | loaded =>
    obtain e | e := loadBuffer_cases s <;> rw [e] <;> exact h
  | built =>
    obtain ⟨sub, e⟩ | ⟨_, e⟩ := buildWave_cases s <;> rw [e] <;> exact h
  | _ => exact h

theorem BuilderOnly.decodeOutputsLegal {s t : State} (he : BuilderOnly s t) (h : DecodeOutputsLegal s) :
    DecodeOutputsLegal t := by
  rw [he]
  exact h

theorem exec_decodeOutputsLegal {i : Instr} {s t : State} (he : exec i s = .next t) (h : DecodeOutputsLegal s) :
    DecodeOutputsLegal t := by
  obtain ⟨_, he⟩ | ⟨_, he⟩ := exec_cases he
  · exact he.builderOnly.decodeOutputsLegal h
  · exact he.decodeOutputsLegal h

/-- Settles O50: only DECODE and the reset write the decode outputs. -/
theorem stepKeepsDecodeOutputsLegal : Obligations.StepKeepsDecodeOutputsLegal := by
  intro s t h hs
  cases step_effect hs with
  | builder he => exact exec_decodeOutputsLegal he h
  | operation he => exact exec_decodeOutputsLegal he h
  | reset => exact ⟨rfl, rfl⟩
  | read => exact h
  | write =>
    rw [hostWrite_frame]
    exact h

end Sys2Proof.Machine

/-! ## Buffer operations -/

namespace Sys2Proof.Machine

open Sys2Proof.Claims

/-! ### PUSHB -/

/-- The count goes up by one and stays at 255 (40_buffer_ops.md R122). -/
theorem pushByte_stageLen_toNat (b : Byte) (s : State) :
    (pushByte b s).stageLen.toNat = min (s.stageLen.toNat + 1) 255 := by
  simp only [pushByte, succeed]
  split
  case isTrue hlt =>
    rw [BitVec.toNat_add_of_lt (by change _ + 1 < _; omega)]
    change _ + 1 = _
    omega
  case isFalse hge => omega

/-- The byte is staged at the place of the count; past the ninth place there is none to write
(40_buffer_ops.md R122). -/
theorem bytes_pushByte_stage (b : Byte) (s : State) :
    bytes (pushByte b s).stage = (bytes s.stage).set s.stageLen.toNat b := by
  simp only [pushByte, succeed]
  split
  case isTrue hlt =>
    refine List.ext_getElem? fun j => (setByte_byteAt _ _ j b hlt).trans ?_
    rw [List.getElem?_set, if_pos (show s.stageLen.toNat < (bytes s.stage).length from hlt)]
    simp only [eq_comm, byteAt]
  case isFalse hge => exact (List.set_eq_of_length_le (Nat.le_of_not_lt hge)).symm

theorem byteAt_pushByte_stage (b : Byte) (s : State) {j : Nat} (hj : j < 10) :
    byteAt (pushByte b s).stage j = if j = s.stageLen.toNat then some b else byteAt s.stage j := by
  rw [byteAt, bytes_pushByte_stage]
  split
  case isTrue he =>
    subst he
    exact List.getElem?_set_self hj
  case isFalse hne => exact List.getElem?_set_ne (Ne.symm hne)

/-- PUSHB writes the staging area, its count and the error record (40_buffer_ops.md R122). -/
theorem pushByte_frame (b : Byte) (s : State) :
    pushByte b s = { s with
      stage := (pushByte b s).stage, stageLen := (pushByte b s).stageLen, lastErr := .noError, errInfo := 0 } := rfl

/-- Settles O13, by what PUSHB does to the count and to each place of the staging area. -/
theorem pushbStagesAndCounts : Obligations.PushbStagesAndCounts := by
  intro b ign s hb
  refine ⟨pushByte b s, exec_pushb_idle b ign hb, ?_, fun j hj => byteAt_pushByte_stage b s hj⟩
  rw [← pushByte_stageLen_toNat b s, BitVec.ofNat_toNat, BitVec.setWidth_eq]
  exact pushByte_frame b s

/-! ### LOADBUF -/

theorem loadBuffer_of_ten {s : State} (h : s.stageLen.toNat = 10) :
    loadBuffer s =
      { s with stageLen := 0, buf := s.stage, bufValid := true, lastErr := .noError, errInfo := 0 } :=
  if_neg (not_not_intro (BitVec.eq_of_toNat_eq h))

/-- ERRINFO of a sub-cause with INFO_A alone (10_state.md R26). -/
theorem errWord_idle (a : Byte) (sub : BitVec 4) :
    errWord a 0 sub .idle = BitVec.ofNat 32 (0x10000 * sub.toNat + a.toNat) := by
  refine congrArg (BitVec.ofNat 32) ?_
  change a.toNat + 0x100 * 0 + 0x10000 * sub.toNat + 0x1000000 * 0 = _
  omega

theorem loadBuffer_of_ne_ten {s : State} (h : s.stageLen.toNat ≠ 10) :
    loadBuffer s = validationRecorded 1 s.stageLen.toNat { s with stageLen := 0 } := by
  have hne : s.stageLen ≠ 10 := fun he => h (congrArg BitVec.toNat he)
  calc loadBuffer s = raise .validation s.stageLen 0 1 .idle { s with stageLen := 0 } := if_pos hne
    _ = validationRecorded 1 s.stageLen.toNat { s with stageLen := 0 } := by
      rw [raise, errWord_idle]
      rfl

/-- Settles O14, by the two cases of LOADBUF's length check. -/
theorem loadbufCommitsExactlyTenBytes : Obligations.LoadbufCommitsExactlyTenBytes := by
  intro ign s hb
  rw [exec_loadbuf_idle ign hb]
  exact ⟨fun h => congrArg _ (loadBuffer_of_ten h), fun h => congrArg _ (loadBuffer_of_ne_ten h)⟩

/-! ### A run of pushes -/

/-- The state after PUSHB of each byte in turn. -/
def pushAll : List Byte → State → State
  | [], s => s
  | b :: bs, s => pushAll bs (pushByte b s)

/-- The bytes staged so far. -/
def staged (s : State) : List Byte := (bytes s.stage).take s.stageLen.toNat

/-- Only the staging area, its count and the error record differ after pushes. -/
theorem pushAll_frame (bs : List Byte) (s : State) :
    pushAll bs s = { s with
      stage := (pushAll bs s).stage, stageLen := (pushAll bs s).stageLen
      lastErr := (pushAll bs s).lastErr, errInfo := (pushAll bs s).errInfo } := by
  induction bs generalizing s with
  | nil => rfl
  | cons b bs ih => exact ih (pushByte b s)

theorem pushAll_busy (bs : List Byte) (s : State) : (pushAll bs s).busy = s.busy := by rw [pushAll_frame]

theorem pushAll_buf (bs : List Byte) (s : State) : (pushAll bs s).buf = s.buf := by rw [pushAll_frame]

theorem pushAll_bufValid (bs : List Byte) (s : State) : (pushAll bs s).bufValid = s.bufValid := by
  rw [pushAll_frame]

/-- The pushes of a run of instructions run first. -/
theorem runList_pushb_append (bs : List Byte) (rest : List Instr) {s : State} (hb : s.busy = false) :
    runList (bs.map (fun b => .pushb b 0) ++ rest) s = runList rest (pushAll bs s) := by
  induction bs generalizing s with
  | nil => rfl
  | cons b bs ih =>
    simp only [List.map_cons, List.cons_append, runList, exec_pushb_idle b 0 hb]
    exact ih (s := pushByte b s) hb

/-- The count is the number of pushes, but at most 255 (40_buffer_ops.md R122). -/
theorem pushAll_stageLen_toNat (bs : List Byte) (s : State) :
    (pushAll bs s).stageLen.toNat = min (s.stageLen.toNat + bs.length) 255 := by
  induction bs generalizing s with
  | nil =>
    change s.stageLen.toNat = min (s.stageLen.toNat + 0) 255
    omega
  | cons b bs ih =>
    rw [pushAll, ih, pushByte_stageLen_toNat, List.length_cons]
    omega

theorem staged_pushByte (b : Byte) {s : State} (h : s.stageLen.toNat < 10) :
    staged (pushByte b s) = staged s ++ [b] := by
  have hlen : s.stageLen.toNat < (bytes s.stage).length := h
  rw [staged, staged, pushByte_stageLen_toNat, Nat.min_eq_left (by omega), bytes_pushByte_stage, List.take_add_one,
    List.getElem?_set_self hlen, List.take_set_of_le (Nat.le_refl _)]
  rfl

/-- The staged bytes are the pushed ones in order, as long as they fit. -/
theorem staged_pushAll (bs : List Byte) {s : State} (h : s.stageLen.toNat + bs.length ≤ 10) :
    staged (pushAll bs s) = staged s ++ bs := by
  induction bs generalizing s with
  | nil => exact (List.append_nil _).symm
  | cons b bs ih =>
    rw [List.length_cons] at h
    have hfit : (pushByte b s).stageLen.toNat + bs.length ≤ 10 := by
      rw [pushByte_stageLen_toNat]
      omega
    rw [pushAll, ih hfit, staged_pushByte b (by omega), List.append_assoc]
    rfl

theorem bytes_stage_of_ten {s : State} (h : s.stageLen.toNat = 10) : bytes s.stage = staged s := by
  rw [staged, h]
  rfl

/-- Settles O15: the pushes stage and count their bytes, and LOADBUF looks at the count. -/
theorem pushesThenLoadbufObeyTheLengthLaw : Obligations.PushesThenLoadbufObeyTheLengthLaw := by
  intro bs s hb hempty
  have hzero : s.stageLen.toNat = 0 := congrArg BitVec.toNat hempty
  have hcount : (pushAll bs s).stageLen.toNat = min bs.length 255 := by
    rw [pushAll_stageLen_toNat, hzero, Nat.zero_add]
  refine ⟨loadBuffer (pushAll bs s), ?_, fun hten => ?_, fun hne => ?_⟩
  · rw [runList_pushb_append bs _ hb, runList, exec_loadbuf_idle 0 ((pushAll_busy bs s).trans hb)]
    rfl
  · have hfull : (pushAll bs s).stageLen.toNat = 10 := by rw [hcount, hten]; rfl
    have hstaged : bytes (pushAll bs s).stage = bs := by
      rw [bytes_stage_of_ten hfull, staged_pushAll bs (by omega), staged, hzero]
      rfl
    rw [loadBuffer_of_ten hfull]
    exact ⟨hstaged, rfl, rfl⟩
  · rw [loadBuffer_of_ne_ten (by omega), hcount]
    exact ⟨pushAll_buf bs s, pushAll_bufValid bs s, rfl, rfl⟩

/-! ### NOP and the reserved opcodes -/

/-- Settles O12, by issuing in the two cases of BUSY. -/
theorem nopChangesNothing : Obligations.NopChangesNothing := fun ign s =>
  ⟨decodeOp_eq_of_encode rfl, exec_nop_idle ign, issue_busy (opWordOf 0x00 ign) s _⟩

/-- A row of a block of opcodes from 6 up records its opcode (40_buffer_ops.md R124). -/
theorem exec_reservedRow {i : Instr} {base : Byte} {n : Nat} {lo : BitVec n} {ign : BitVec 24} {s : State}
    (hcode : encode i = .opWord (opWordOf (blockByte base lo) ign)) (hb : s.busy = false)
    (hbase : 6 ≤ base.toNat := by decide) (hfit : base.toNat + 2 ^ n ≤ 256 := by decide) :
    exec i s = .next (illegalRecorded (base.toNat + lo.toNat) s) := by
  have hopcode : (blockByte base lo).toNat = base.toNat + lo.toNat := blockByte_toNat_of_le lo hfit
  rw [exec_of_encode_opWord hcode hb, opWordOf_opcode, runOpcode_reserved (by omega), illegal_eq_illegalRecorded,
    hopcode]

/-- Settles O16: each of the six rows is a block of opcodes from 6 up. -/
theorem reservedOpcodesRaiseIllegalOpcode : Obligations.ReservedOpcodesRaiseIllegalOpcode := fun _ _ hb =>
  ⟨fun _ => exec_reservedRow (base := 0x06) rfl hb, fun _ => exec_reservedRow (base := 0x08) rfl hb,
    fun _ => exec_reservedRow (base := 0x10) rfl hb, fun _ => exec_reservedRow (base := 0x20) rfl hb,
    fun _ => exec_reservedRow (base := 0x40) rfl hb, fun _ => exec_reservedRow (base := 0x80) rfl hb⟩

end Sys2Proof.Machine

/-! ## The codec tables -/

namespace Sys2Proof.Machine

open Sys2Proof.Claims

/-! ### The rows of ENCODE -/

/-- Settles O18: a row is its line of the encode table, and the table has no line for a kind from 8 up. -/
theorem encodeRowsWriteTheirBuffer : Obligations.EncodeRowsWriteTheirBuffer := by
  intro s
  refine ⟨exec_of_encode_cmdKind (k := 0) rfl s, exec_of_encode_cmdKind (k := 1) rfl s,
    exec_of_encode_cmdKind (k := 2) rfl s, exec_of_encode_cmdKind (k := 3) rfl s,
    exec_of_encode_cmdKind (k := 4) rfl s, exec_of_encode_cmdKind (k := 5) rfl s,
    exec_of_encode_cmdKind (k := 6) rfl s, exec_of_encode_cmdKind (k := 7) rfl s, fun lo => ?_⟩
  have hkind : (BitVec.ofNat 4 (8 + lo.toNat)).toNat = 8 + lo.toNat :=
    Nat.mod_eq_of_lt (Nat.add_lt_add_left lo.isLt 8)
  rw [exec_of_encode_cmdKind (k := BitVec.ofNat 4 (8 + lo.toNat)) rfl s, hkind, encTable_of_le (Nat.le_add_right 8 _)]

/-! ### DECODE by its table -/

/-- What DECODE does for a class and a param by the decode table (41_codec.md R161). -/
def decodeResult (cls p : Nat) (s : State) : Result :=
  match decTable cls p with
  | some (kind, value) => .next (decodedAs cls p kind value s)
  | none => .next (decodeErrorRecorded cls p s)

theorem decodeResult_of_some {cls p kind value : Nat} (h : decTable cls p = some (kind, value)) (s : State) :
    decodeResult cls p s = .next (decodedAs cls p kind value s) := by
  rw [decodeResult, h]

theorem decodeResult_of_none {cls p : Nat} (h : decTable cls p = none) (s : State) :
    decodeResult cls p s = .next (decodeErrorRecorded cls p s) := by
  rw [decodeResult, h]

/-- A byte in the block from `base` is a key of the block's row: what the row does for every operand, it does for the
byte. -/
theorem exec_decodeKey_of_block {s : State} {x : Byte} {base n : Nat} {row : BitVec n → Instr}
    (key : Byte → BitVec 16) (out : Nat → Nat → State)
    (hrow : ∀ v : BitVec n, decodeKey (key (BitVec.ofNat 8 (base + v.toNat))) = row v ∧
      exec (row v) s = .next (out (base + v.toNat) v.toNat))
    (hlo : base ≤ x.toNat) (hhi : x.toNat < base + 2 ^ n) :
    exec (decodeKey (key x)) s = .next (out x.toNat (x.toNat - base)) := by
  obtain ⟨hkey, hexec⟩ := hrow (BitVec.ofNat n (x.toNat - base))
  rw [BitVec.toNat_ofNat, Nat.mod_eq_of_lt (by omega), Nat.add_sub_cancel' hlo] at hkey hexec
  rw [BitVec.ofNat_toNat, BitVec.setWidth_eq] at hkey
  rw [hkey, hexec]

theorem exec_decodeKey_class0 (p : Byte) (s : State) : exec (decodeKey (keyOf 0 p)) s = decodeResult 0 p.toNat s := by
  obtain ⟨hOff, hDim, hDecrease, hAllOff, -⟩ := decodeRowsOfClasses0And1 s
  unfold decodeResult decTable
  rw [if_pos rfl]
  split_ifs with h127 h159 h191
  · exact exec_decodeKey_of_block (base := 0) (keyOf 0) (fun p _ => decodedAs 0 p 1 0 s)
      (by simpa only [Nat.zero_add] using hOff) (Nat.zero_le _) (Nat.lt_succ_of_le h127)
  · exact exec_decodeKey_of_block (keyOf 0) (fun p v => decodedAs 0 p 2 v s) hDim
      (Nat.lt_of_not_le h127) (Nat.lt_succ_of_le h159)
  · exact exec_decodeKey_of_block (keyOf 0) (fun p _ => decodedAs 0 p 4 160 s) hDecrease
      (Nat.lt_of_not_le h159) (Nat.lt_succ_of_le h191)
  · exact exec_decodeKey_of_block (keyOf 0) (fun p _ => decodedAs 0 p 7 192 s) hAllOff
      (Nat.lt_of_not_le h191) p.isLt

theorem exec_decodeKey_class1 (p : Byte) (s : State) : exec (decodeKey (keyOf 1 p)) s = decodeResult 1 p.toNat s := by
  obtain ⟨-, -, -, -, hOn, hDim32, hDim64, hDim96, hDim128, hIncrease, hAllOn192, hAllOn224⟩ :=
    decodeRowsOfClasses0And1 s
  unfold decodeResult decTable
  rw [if_neg Nat.one_ne_zero, if_pos rfl]
  split_ifs with h31 h63 h95 h127 h159 h191 h223
  · exact exec_decodeKey_of_block (base := 0) (keyOf 1) (fun p _ => decodedAs 1 p 0 0 s)
      (by simpa only [Nat.zero_add] using hOn) (Nat.zero_le _) (Nat.lt_succ_of_le h31)
  · exact exec_decodeKey_of_block (keyOf 1) (fun p v => decodedAs 1 p 2 v s) hDim32
      (Nat.lt_of_not_le h31) (Nat.lt_succ_of_le h63)
  · exact exec_decodeKey_of_block (keyOf 1) (fun p v => decodedAs 1 p 2 v s) hDim64
      (Nat.lt_of_not_le h63) (Nat.lt_succ_of_le h95)
  · exact exec_decodeKey_of_block (keyOf 1) (fun p v => decodedAs 1 p 2 v s) hDim96
      (Nat.lt_of_not_le h95) (Nat.lt_succ_of_le h127)
  · exact exec_decodeKey_of_block (keyOf 1) (fun p v => decodedAs 1 p 2 v s) hDim128
      (Nat.lt_of_not_le h127) (Nat.lt_succ_of_le h159)
  · exact exec_decodeKey_of_block (keyOf 1) (fun p _ => decodedAs 1 p 3 160 s) hIncrease
      (Nat.lt_of_not_le h159) (Nat.lt_succ_of_le h191)
  · exact exec_decodeKey_of_block (keyOf 1) (fun p v => decodedAs 1 p 6 v s) hAllOn192
      (Nat.lt_of_not_le h191) (Nat.lt_succ_of_le h223)
  · exact exec_decodeKey_of_block (keyOf 1) (fun p v => decodedAs 1 p 6 v s) hAllOn224
      (Nat.lt_of_not_le h223) p.isLt

theorem exec_decodeKey_class2 (p : Byte) (s : State) : exec (decodeKey (keyOf 2 p)) s = decodeResult 2 p.toNat s := by
  obtain ⟨hMoodLo, hMoodHi, hErr, -⟩ := decodeRowsOfMoodAndErrors s
  unfold decodeResult decTable
  rw [if_neg (Nat.succ_ne_zero 1), if_neg (Nat.succ_ne_self 1), if_pos rfl]
  split_ifs with h1 h129
  · exact exec_decodeKey_of_block (base := 0) (keyOf 2) (fun p _ => decodeErrorRecorded 2 p s)
      (by simpa only [Nat.zero_add] using hErr) (Nat.zero_le _) (Nat.lt_succ_of_le h1)
  · obtain ⟨hkey, hexec⟩ := hMoodLo p (Nat.lt_of_not_le h1) h129
    rw [hkey, hexec]
  · obtain ⟨hkey, hexec⟩ := hMoodHi p (Nat.lt_of_not_le h129)
    rw [hkey, hexec]

theorem decTable_of_three_le {cls : Nat} (h : 3 ≤ cls) (p : Nat) : decTable cls p = none := by
  simp (disch := omega) only [decTable, if_neg]

theorem exec_decodeKey_class_ge_three {cls : Byte} (h3 : 3 ≤ cls.toNat) (p : Byte) (s : State) :
    exec (decodeKey (keyOf cls p)) s = decodeResult cls.toNat p.toNat s := by
  obtain ⟨-, -, -, h03, h04, h08, h10, h20, h40, h80⟩ := decodeRowsOfMoodAndErrors s
  rw [decodeResult_of_none (decTable_of_three_le h3 _)]
  have hblock {base n : Nat} {row : BitVec n → Instr} :=
    exec_decodeKey_of_block (s := s) (x := cls) (base := base) (row := row) (keyOf · p)
      fun c _ => decodeErrorRecorded c p.toNat s
  obtain hlt4 | h4 := Nat.lt_or_ge cls.toNat 4
  · obtain rfl : 3 = cls := BitVec.eq_of_toNat_eq (Nat.le_antisymm h3 (Nat.le_of_lt_succ hlt4))
    obtain ⟨hkey, hexec⟩ := h03 p
    rw [hkey, hexec]
    rfl
  obtain hlt8 | h8 := Nat.lt_or_ge cls.toNat 8
  · exact hblock (h04 · p) h4 hlt8
  obtain hlt16 | h16 := Nat.lt_or_ge cls.toNat 16
  · exact hblock (h08 · p) h8 hlt16
  obtain hlt32 | h32 := Nat.lt_or_ge cls.toNat 32
  · exact hblock (h10 · p) h16 hlt32
  obtain hlt64 | h64 := Nat.lt_or_ge cls.toNat 64
  · exact hblock (h20 · p) h32 hlt64
  obtain hlt128 | h128 := Nat.lt_or_ge cls.toNat 128
  · exact hblock (h40 · p) h64 hlt128
  · exact hblock (h80 · p) h128 cls.isLt

/-- The row of a key does what the decode table says of its class and param (41_codec.md R162 to R177). -/
theorem exec_decodeKey_eq_decodeResult (cls p : Byte) (s : State) :
    exec (decodeKey (keyOf cls p)) s = decodeResult cls.toNat p.toNat s := by
  obtain h0 | h1 | h2 | h3 : cls = 0 ∨ cls = 1 ∨ cls = 2 ∨ 3 ≤ cls.toNat := by bv_omega
  · exact h0 ▸ exec_decodeKey_class0 p s
  · exact h1 ▸ exec_decodeKey_class1 p s
  · exact h2 ▸ exec_decodeKey_class2 p s
  · exact exec_decodeKey_class_ge_three h3 p s

/-- The param that DECODE copies from the two nibble bytes (41_codec.md R161). -/
theorem paramOf_toNat (b : Bytes10) : (paramOf b).toNat = (b.b0.toNat * 16 % 256) ||| b.b1.toNat := by
  rw [paramOf, BitVec.toNat_or, BitVec.toNat_shiftLeft, Nat.shiftLeft_eq]

theorem exec_decode_of_not_bufValid (ign : BitVec 24) {s : State} (hb : s.busy = false) (hv : s.bufValid = false) :
    exec (.decode ign) s = .next (validationRecorded 4 0 s) := by
  rw [exec_decode_idle ign hb, decodeBuffer, if_pos hv, raise, errWord_idle]
  rfl

theorem exec_decode_of_bufValid (ign : BitVec 24) {s : State} (hb : s.busy = false) (hv : s.bufValid = true) :
    exec (.decode ign) s = decodeResult s.buf.b3.toNat (paramOf s.buf).toNat s := by
  rw [decodeRunsTheRowOfItsKey ign s hb hv, exec_decodeKey_eq_decodeResult]

/-- Settles O20: DECODE runs the row of its key, and each row is its line of the table. -/
theorem decodeFollowsTheDecodeTable : Obligations.DecodeFollowsTheDecodeTable := by
  intro ign s hb
  refine ⟨exec_decode_of_not_bufValid ign hb, fun hv => ?_⟩
  rw [← paramOf_toNat]
  exact exec_decode_of_bufValid ign hb hv

/-! ### The decode table by kinds -/

/-- The lines of the decode table in the order of the kinds: a class and a param with a result, the kind and the value
(41_codec.md R162 to R175). -/
inductive DecodesTo : Nat → Nat → Nat → Nat → Prop
  | on {p : Nat} (hp : p ≤ 31) : DecodesTo 1 p 0 0
  | off {p : Nat} (hp : p ≤ 127) : DecodesTo 0 p 1 0
  | dimClass0 {p v : Nat} (hv : v ≤ 31) (hp : p = v + 128) : DecodesTo 0 p 2 v
  | dimClass1 {p v : Nat} (hv : v ≤ 31) (hp : p = v + 32 ∨ p = v + 64 ∨ p = v + 96 ∨ p = v + 128) : DecodesTo 1 p 2 v
  | increase {p : Nat} (hlo : 160 ≤ p) (hhi : p ≤ 191) : DecodesTo 1 p 3 160
  | decrease {p : Nat} (hlo : 160 ≤ p) (hhi : p ≤ 191) : DecodesTo 0 p 4 160
  | mood {p v : Nat} (hlo : 1 ≤ v) (hhi : v ≤ 128) (hp : p = v + 1 ∨ p = v + 129) (hbyte : p < 256) : DecodesTo 2 p 5 v
  | allOn {p v : Nat} (hv : v ≤ 31) (hp : p = v + 192 ∨ p = v + 224) : DecodesTo 1 p 6 v
  | allOff {p : Nat} (hp : 192 ≤ p) : DecodesTo 0 p 7 192

theorem decodesTo_of_decTable {cls p k v : Nat} (h : decTable cls p = some (k, v)) (hbyte : p < 256) :
    DecodesTo cls p k v := by
  unfold decTable at h
  split_ifs at h <;> cases h <;> subst cls
  all_goals constructor <;> omega

theorem DecodesTo.decTable {cls p k v : Nat} (h : DecodesTo cls p k v) : decTable cls p = some (k, v) := by
  obtain hp | hp | ⟨hv, rfl⟩ | ⟨hv, rfl | rfl | rfl | rfl⟩ | ⟨hlo, hhi⟩ | ⟨hlo, hhi⟩ | ⟨hlo, hhi, rfl | rfl, -⟩ |
    ⟨hv, rfl | rfl⟩ | hp := h
  all_goals simp (disch := omega) only [Claims.decTable, if_pos, if_neg, reduceIte, Nat.add_sub_cancel]

/-- The kinds with their values, in the order of 41_codec.md R179. -/
theorem DecodesTo.range {cls p k v : Nat} (h : DecodesTo cls p k v) :
    (k = 2 ∧ v ≤ 31) ∨ (k = 6 ∧ v ≤ 31) ∨ (k = 5 ∧ 1 ≤ v ∧ v ≤ 128) ∨ (k = 0 ∧ v = 0) ∨ (k = 1 ∧ v = 0) ∨
      (k = 4 ∧ v = 160) ∨ (k = 3 ∧ v = 160) ∨ (k = 7 ∧ v = 192) := by
  cases h <;> omega

theorem DecodesTo.kind_toNat {cls p k v : Nat} (h : DecodesTo cls p k v) : (BitVec.ofNat 4 k).toNat = k := by
  have hrange := h.range
  exact Nat.mod_eq_of_lt (by omega)

theorem DecodesTo.value_toNat {cls p k v : Nat} (h : DecodesTo cls p k v) : (BitVec.ofNat 8 v).toNat = v := by
  have hrange := h.range
  exact Nat.mod_eq_of_lt (by omega)

/-- A DECODE that records no error had a buffer and a line of the table (41_codec.md R161). -/
theorem exec_decode_of_noError {ign : BitVec 24} {s t : State} (hb : s.busy = false)
    (ht : exec (.decode ign) s = .next t) (hok : t.lastErr = .noError) :
    ∃ k v, DecodesTo s.buf.b3.toNat (paramOf s.buf).toNat k v ∧
      t = decodedAs s.buf.b3.toNat (paramOf s.buf).toNat k v s := by
  cases hv : s.bufValid with
  | false =>
    rw [exec_decode_of_not_bufValid ign hb hv] at ht
    cases ht
    cases hok
  | true =>
    rw [exec_decode_of_bufValid ign hb hv] at ht
    cases htable : decTable s.buf.b3.toNat (paramOf s.buf).toNat with
    | none =>
      rw [decodeResult_of_none htable] at ht
      cases ht
      cases hok
    | some r =>
      rw [decodeResult_of_some htable] at ht
      cases ht
      exact ⟨r.1, r.2, decodesTo_of_decTable htable (paramOf s.buf).isLt, rfl⟩

/-- Settles O24: a DECODE without error wrote a line of the table. -/
theorem decodedValuesStayInTheirRanges : Obligations.DecodedValuesStayInTheirRanges := by
  intro ign s t hb ht hok
  obtain ⟨k, v, hline, rfl⟩ := exec_decode_of_noError hb ht hok
  simp only [decodedAs, ← BitVec.toNat_inj, hline.kind_toNat, hline.value_toNat]
  exact hline.range

/-! ### The buffer that ENCODE writes -/

/-- Two nibbles make the param they spell (41_codec.md R150, R161). -/
theorem paramOf_toNat_of_nibbles {b : Bytes10} (h0 : b.b0.toNat ≤ 15) (h1 : b.b1.toNat ≤ 15) :
    (paramOf b).toNat = 16 * b.b0.toNat + b.b1.toNat := by
  have hadd : b.b0.toNat <<< 4 + b.b1.toNat = b.b0.toNat <<< 4 ||| b.b1.toNat :=
    Nat.shiftLeft_add_eq_or_of_lt (by omega) _
  rw [Nat.shiftLeft_eq] at hadd
  rw [paramOf_toNat, Nat.mod_eq_of_lt (by omega), ← hadd, Nat.mul_comm]

theorem paramOf_encoded (cls : Nat) {p : Nat} (hp : p < 256) (s : State) :
    (paramOf (encoded cls p s).buf).toNat = p := by
  have h0 : (encoded cls p s).buf.b0.toNat = p / 16 := Nat.mod_eq_of_lt (by omega)
  have h1 : (encoded cls p s).buf.b1.toNat = p % 16 := Nat.mod_eq_of_lt (by omega)
  rw [paramOf_toNat_of_nibbles (by omega) (by omega), h0, h1]
  exact Nat.div_add_mod p 16

/-- A buffer is the encoding of its own device, address and room exactly when it has the class, and the param in two
nibbles (41_codec.md R150). -/
theorem encoded_buf_eq_iff {cls p : Nat} {b : Bytes10} {s : State} (hcls : cls < 256) (hp : p < 256)
    (hdevice : s.cmdDevice = b.b2) (haddr : s.cmdAddr = addrOf b) (hroom : s.cmdRoom = b.b9) :
    (encoded cls p s).buf = b ↔
      b.b0.toNat ≤ 15 ∧ b.b1.toNat ≤ 15 ∧ b.b3.toNat = cls ∧ (paramOf b).toNat = p := by
  have h0 : (BitVec.ofNat 8 (p / 16)).toNat = p / 16 := Nat.mod_eq_of_lt (by omega)
  have h1 : (BitVec.ofNat 8 (p % 16)).toNat = p % 16 := Nat.mod_eq_of_lt (by omega)
  have h3 : (BitVec.ofNat 8 cls).toNat = cls := Nat.mod_eq_of_lt hcls
  constructor
  · intro he
    have hparam := paramOf_encoded cls hp s
    rw [he] at hparam
    subst he
    exact ⟨h0.trans_le (by omega), h1.trans_le (by omega), h3, hparam⟩
  · rintro ⟨hb0, hb1, hb3, hparam⟩
    rw [paramOf_toNat_of_nibbles hb0 hb1] at hparam
    have e0 : BitVec.ofNat 8 (p / 16) = b.b0 := BitVec.eq_of_toNat_eq (by omega)
    have e1 : BitVec.ofNat 8 (p % 16) = b.b1 := BitVec.eq_of_toNat_eq (by omega)
    have e3 : BitVec.ofNat 8 cls = b.b3 := BitVec.eq_of_toNat_eq (by omega)
    simp only [encoded, e0, e1, e3, hdevice, haddr, hroom, addrOf]

theorem exec_encode_of_encTable (ign : BitVec 24) {s : State} {cls p : Nat} (hb : s.busy = false)
    (h : encTable s.cmdKind.toNat s.cmdValue.toNat = some (cls, p)) :
    exec (.encode ign) s = .next (encoded cls p s) := by
  rw [encodeFollowsTheEncodeTable ign s hb, h]

/-! ### DECODE after ENCODE -/

theorem decTable_class2_of_le_one {p : Nat} (hp : p ≤ 1) : decTable 2 p = none := if_pos hp

/-! A param that ENCODE gives lies in one line of the decode table for each range of the value; class and kind say in
which. -/

theorem decTable_encoded_dim {v : Nat} (hv : v < 256) : decTable 1 ((v + 64) % 256) = roundTrip 2 v := by
  simp only [roundTrip, Nat.reduceEqDiff, OfNat.ofNat_ne_zero, reduceIte]
  split_ifs <;> exact DecodesTo.decTable (by constructor <;> omega)

theorem decTable_encoded_increase {v : Nat} (hv : v < 256) : decTable 1 ((v + 160) % 256) = roundTrip 3 v := by
  simp only [roundTrip, Nat.reduceEqDiff, OfNat.ofNat_ne_zero, OfNat.ofNat_ne_one, reduceIte]
  split_ifs <;> exact DecodesTo.decTable (by constructor <;> omega)

theorem decTable_encoded_mood {v : Nat} (hv : v < 256) : decTable 2 ((v + 2) % 256) = roundTrip 5 v := by
  simp only [roundTrip, Nat.reduceEqDiff, OfNat.ofNat_ne_zero, OfNat.ofNat_ne_one, reduceIte]
  split_ifs
  case neg => exact decTable_class2_of_le_one (by omega)
  all_goals exact DecodesTo.decTable (by constructor <;> omega)

theorem decTable_encoded_allOn {v : Nat} (hv : v < 256) : decTable 1 ((v + 192) % 256) = roundTrip 6 v := by
  simp only [roundTrip, Nat.reduceEqDiff, OfNat.ofNat_ne_zero, OfNat.ofNat_ne_one, reduceIte]
  split_ifs <;> exact DecodesTo.decTable (by constructor <;> omega)

/-- The kinds 0 to 7 encode, and the decode table takes the result to the round-trip table (41_codec.md R180). -/
theorem encTable_then_decTable {k v : Nat} (hk : k ≤ 7) (hv : v < 256) :
    ∃ cls p, encTable k v = some (cls, p) ∧ cls < 256 ∧ p < 256 ∧ decTable cls p = roundTrip k v := by
  have hmod (x : Nat) : x % 256 < 256 := Nat.mod_lt x (by decide)
  interval_cases k
  · exact ⟨1, 0, rfl, by decide, by decide, rfl⟩
  · exact ⟨0, 64, rfl, by decide, by decide, rfl⟩
  · exact ⟨1, _, rfl, by decide, hmod _, decTable_encoded_dim hv⟩
  · exact ⟨1, _, rfl, by decide, hmod _, decTable_encoded_increase hv⟩
  · exact ⟨0, 160, rfl, by decide, by decide, rfl⟩
  · exact ⟨2, _, rfl, by decide, hmod _, decTable_encoded_mood hv⟩
  · exact ⟨1, _, rfl, by decide, hmod _, decTable_encoded_allOn hv⟩
  · exact ⟨0, 192, rfl, by decide, by decide, rfl⟩

theorem roundTrip_of_validCommand {k v : Nat} (h : ValidCommand k v) : roundTrip k v = some (k, v) := by
  obtain ⟨rfl, rfl⟩ | ⟨rfl, rfl⟩ | ⟨rfl, rfl⟩ | ⟨rfl, rfl⟩ | ⟨rfl, hv⟩ | ⟨rfl, hv⟩ := h
  · rfl
  · rfl
  · rfl
  · rfl
  · exact if_pos hv
  · exact if_pos hv

/-- A Mood comes back with another value. -/
theorem roundTrip_mood_ne (v : Nat) : roundTrip 5 v ≠ some (5, v) := by
  intro h
  simp only [roundTrip, Nat.reduceEqDiff, OfNat.ofNat_ne_zero, OfNat.ofNat_ne_one, reduceIte] at h
  split_ifs at h <;> simp only [Option.some.injEq, Prod.mk.injEq] at h <;> omega

/-- The fixed points of the round-trip table are the valid commands: what comes back is a result of the decode table,
and of those an Increase and a Mood come from another value (41_codec.md R180). -/
theorem roundTrip_eq_self_iff {k v : Nat} (hk : k ≤ 7) (hv : v < 256) :
    roundTrip k v = some (k, v) ↔ ValidCommand k v := by
  refine ⟨fun h => ?_, roundTrip_of_validCommand⟩
  obtain ⟨cls, p, -, -, hp, htable⟩ := encTable_then_decTable hk hv
  unfold ValidCommand
  obtain ⟨rfl, hv⟩ | ⟨rfl, hv⟩ | ⟨rfl, -⟩ | ⟨rfl, hv⟩ | ⟨rfl, hv⟩ | ⟨rfl, hv⟩ | ⟨rfl, rfl⟩ | ⟨rfl, hv⟩ :=
    (decodesTo_of_decTable (htable.trans h) hp).range
  · omega
  · omega
  · exact absurd h (roundTrip_mood_ne v)
  · omega
  · omega
  · omega
  · exact absurd h (by decide)
  · omega

/-- DECODE of the buffer that ENCODE wrote classifies its class and param. -/
theorem exec_decode_encoded (j : BitVec 24) {cls p : Nat} {s : State} (hb : s.busy = false) (hcls : cls < 256)
    (hp : p < 256) : exec (.decode j) (encoded cls p s) = decodeResult cls p (encoded cls p s) := by
  have hb3 : (encoded cls p s).buf.b3.toNat = cls := Nat.mod_eq_of_lt hcls
  rw [exec_decode_of_bufValid (s := encoded cls p s) j hb rfl, paramOf_encoded cls hp, hb3]

/-- Settles O25: the decode table after the encode table is the round-trip table, whose fixed points are the valid
commands. -/
theorem decodeAfterEncodeFollowsTheRoundTripTable : Obligations.DecodeAfterEncodeFollowsTheRoundTripTable := by
  intro i j s hb hk
  obtain ⟨cls, p, henc, hcls, hp, htable⟩ := encTable_then_decTable hk s.cmdValue.isLt
  have ht := exec_encode_of_encTable i hb henc
  have hu := exec_decode_encoded j hb hcls hp
  rw [← roundTrip_eq_self_iff hk s.cmdValue.isLt]
  cases hround : roundTrip s.cmdKind.toNat s.cmdValue.toNat with
  | none =>
    rw [decodeResult_of_none (htable.trans hround)] at hu
    have hne : (15 : BitVec 4) ≠ s.cmdKind := by bv_omega
    exact ⟨_, _, ht, hu, rfl, rfl, rfl, nofun, fun _ => ⟨rfl, rfl, rfl⟩, fun h => absurd h.1 hne, nofun⟩
  | some r =>
    obtain ⟨k, v⟩ := r
    rw [decodeResult_of_some (htable.trans hround)] at hu
    have hline := decodesTo_of_decTable (htable.trans hround) hp
    refine ⟨_, _, ht, hu, rfl, rfl, rfl, ?_, nofun, ?_⟩
    · rintro _ _ ⟨⟩
      exact ⟨hline.kind_toNat, hline.value_toNat, rfl, rfl⟩
    · simp only [decodedAs, ← BitVec.toNat_inj, hline.kind_toNat, hline.value_toNat, Option.some.injEq, Prod.mk.injEq]

/-! ### ENCODE after DECODE -/

/-- The classes and params of the images of the valid commands (41_codec.md R181). -/
def ImageParam (cls p : Nat) : Prop :=
  (cls = 0 ∧ (p = 64 ∨ p = 160 ∨ p = 192)) ∨
    (cls = 1 ∧ (p = 0 ∨ (64 ≤ p ∧ p ≤ 95) ∨ (192 ≤ p ∧ p ≤ 223)))

theorem encodeImage_iff (b : Bytes10) :
    EncodeImage b ↔ b.b0.toNat ≤ 15 ∧ b.b1.toNat ≤ 15 ∧ ImageParam b.b3.toNat (paramOf b).toNat := by
  simp only [EncodeImage, ← BitVec.toNat_inj]
  rfl

/-- A result of the decode table encodes; it gives back its class and param exactly when they are those of an image,
class 1 for a class-0 Dim and another param for a Mood (41_codec.md R181). -/
theorem DecodesTo.encTable {cls p k v : Nat} (h : DecodesTo cls p k v) :
    ∃ cls' p', Claims.encTable k v = some (cls', p') ∧ cls' < 256 ∧ p' < 256 ∧
      (cls = cls' ∧ p = p' ↔ ImageParam cls p) ∧ (cls = 0 → k = 2 → cls' = 1) ∧ (k = 5 → p' ≠ p) := by
  unfold ImageParam
  cases h <;> exact ⟨_, _, rfl, by omega, by omega, by omega, by omega, by omega⟩

/-- Settles O26: a successful DECODE gives a line of the table, and ENCODE takes the line's result back to its class
and param exactly for the images. -/
theorem encodeAfterDecodeRestoresOnlyImages : Obligations.EncodeAfterDecodeRestoresOnlyImages := by
  intro i j s t hb ht hok
  obtain ⟨k, v, hline, rfl⟩ := exec_decode_of_noError hb ht hok
  obtain ⟨cls, p, henc, hcls, hp, himage, hdim, hmood⟩ := hline.encTable
  have hkind := hline.kind_toNat
  refine ⟨_, exec_encode_of_encTable j hb (by rwa [← hkind, ← hline.value_toNat] at henc), ?_, ?_, ?_⟩
  · rw [encoded_buf_eq_iff hcls hp rfl rfl rfl, encodeImage_iff, himage]
  · intro hb3 hk2
    have hclass0 : s.buf.b3.toNat = 0 := congrArg BitVec.toNat hb3
    have hk : k = 2 := hkind.symm.trans (congrArg BitVec.toNat hk2)
    exact congrArg (BitVec.ofNat 8) (hdim hclass0 hk)
  · intro hk5 he
    have hk : k = 5 := hkind.symm.trans (congrArg BitVec.toNat hk5)
    have hparam := congrArg BitVec.toNat he
    rw [paramOf_encoded cls hp] at hparam
    exact hmood hk hparam

end Sys2Proof.Machine

/-! ## What a builder step sends

Every builder row has one form: it writes its state, sends at most one segment, and writes its state again. The pulse
list, the steps left and the ticks of a build all follow from what each row sends. -/

namespace Sys2Proof.Machine

open Sys2Proof.Claims

/-! ### One pulse -/

theorem pmemRead_mergePulse_last (d : BitVec 64) (s : State) :
    pmemRead (mergePulse d s) (s.pulseCount.toNat - 1) =
      { pmemRead s (s.pulseCount.toNat - 1) with dur := (pmemRead s (s.pulseCount.toNat - 1)).dur + d } :=
  pmemRead_write_same s _ _

theorem pmemRead_mergePulse_other (d : BitVec 64) (s : State) {i : Nat} (hi : i ≠ s.pulseCount.toNat - 1) :
    pmemRead (mergePulse d s) i = pmemRead s i :=
  pmemRead_write_other s _ i _ hi

theorem pmemRead_appendPulse_new (lvl : Level) (d : BitVec 64) (s : State) :
    pmemRead (appendPulse lvl d s) s.pulseCount.toNat = ⟨(masks s.latch lvl).1, (masks s.latch lvl).2, d⟩ :=
  pmemRead_write_same s _ _

theorem pmemRead_appendPulse_other (lvl : Level) (d : BitVec 64) (s : State) {i : Nat}
    (hi : i ≠ s.pulseCount.toNat) : pmemRead (appendPulse lvl d s) i = pmemRead s i :=
  pmemRead_write_other s _ i _ hi

theorem addPulse_of_merges {lvl : Level} {s : State} (d : BitVec 64) (h : merges lvl s = true) :
    addPulse lvl d s = .went (mergePulse d s) :=
  if_pos h

theorem addPulse_of_full {lvl : Level} {s : State} (d : BitVec 64) (h : ¬ merges lvl s = true)
    (hfull : s.pulseCount = s.build.maxPulses) : addPulse lvl d s = .aborted (capacityAbort s) :=
  (if_neg h).trans (if_pos hfull)

theorem addPulse_of_room {lvl : Level} {s : State} (d : BitVec 64) (h : ¬ merges lvl s = true)
    (hroom : s.pulseCount ≠ s.build.maxPulses) : addPulse lvl d s = .went (appendPulse lvl d s) :=
  (if_neg h).trans (if_neg hroom)

/-- Settles O36, by the three cases of `add_pulse` and a read after a write. -/
theorem addPulseMergesAppendsOrAborts : Obligations.AddPulseMergesAppendsOrAborts := by
  intro lvl d s
  simp only [← merges_iff]
  refine ⟨fun hm => ?_, fun hm hroom => ?_, fun hm hfull => addPulse_of_full d hm hfull⟩
  · exact ⟨_, addPulse_of_merges d hm, rfl, pmemRead_mergePulse_last d s, fun _ => pmemRead_mergePulse_other d s⟩
  · exact ⟨_, addPulse_of_room d hm hroom, rfl, pmemRead_appendPulse_new lvl d s,
      fun _ => pmemRead_appendPulse_other lvl d s⟩

theorem getElem_pinMask (l : Latch) (i : Fin 32) : (pinMask l)[i] = decide (i.val = l.pin.toNat) := by
  rw [Fin.getElem_fin, ← BitVec.getLsbD_eq_getElem, pinMask, BitVec.getLsbD_ofNat, Nat.testBit_two_pow]
  simp [eq_comm]

/-- Settles O37: the mask is a power of two, and inversion is the other arm of MASKS. -/
theorem maskPairsOfThePin : Obligations.MaskPairsOfThePin := by
  refine fun l => ⟨getElem_pinMask l, fun h => ?_, fun h => ?_⟩ <;> simp [masks, h]

/-! ### Segments -/

/-- A last pulse that is OFF takes an OFF segment and no ON segment (43_waveform.md R230, R233). -/
theorem merges_of_lastPulseOff {s : State} (h : LastPulseOff s) : merges .off s = true :=
  (merges_iff .off s).2 h

theorem not_merges_on_of_ready {s : State} (h : ReadyForOn s) : ¬ merges .on s = true := by
  rw [merges_iff]
  rintro ⟨hpos, hon⟩
  obtain h0 | ⟨_, hoff⟩ := h
  · omega
  · exact masks_on_ne_off s.latch (hon.symm.trans hoff)

/-- After an ON pulse an OFF pulse is appended, not merged (43_waveform.md R231). -/
theorem not_merges_off_appendPulse_on {s : State} (d : BitVec 64) (hroom : s.pulseCount.toNat + 1 < 2 ^ 16) :
    ¬ merges .off (appendPulse .on d s) = true := by
  have hlast : (s.pulseCount + 1).toNat - 1 = s.pulseCount.toNat := by bv_omega
  rw [merges_iff, appendPulse_pulseCount, hlast, pmemRead_appendPulse_new]
  exact fun h => masks_on_ne_off s.latch h.2

/-- What a builder step sends (43_waveform.md R231, R232): an ON segment of HIGH_COUNT ticks, an OFF segment, or
nothing. -/
inductive Sent where
  | on
  | off (ticks : Nat)
  | nothing

/-- The sending of it. -/
def emit : Sent → State → Emit
  | .on, s => segOn s.build.highCount.toNat s
  | .off c, s => segOff c s
  | .nothing, s => .went s

/-- The state after it where nothing is aborted (`emit_fits`). -/
def emitted : Sent → State → State
  | .on, s => appendPulse .off (duration s.latch s.build.trailCount.toNat)
      (appendPulse .on (duration s.latch (s.build.highCount.toNat - s.build.trailCount.toNat)) s)
  | .off c, s => mergePulse (duration s.latch c) s
  | .nothing, s => s

/-- The pulse list is such that an ON segment appends and an OFF segment merges (43_waveform.md R243). -/
def ReadyFor : Sent → State → Prop
  | .on, s => ReadyForOn s
  | .off _, s => LastPulseOff s
  | .nothing, _ => True

/-- There is room for the pulses that are appended. -/
def Fits : Sent → State → Prop
  | .on, s => s.pulseCount.toNat + 2 ≤ s.build.maxPulses.toNat
  | _, _ => True

/-- With room a segment is sent (43_waveform.md R230 to R232). -/
theorem emit_fits {a : Sent} {s : State} (hready : ReadyFor a s) (hfits : Fits a s) :
    emit a s = .went (emitted a s) := by
  cases a with
  | on =>
    have hmax := s.build.maxPulses.isLt
    simp only [ReadyFor, Fits] at hready hfits
    have hon := addPulse_of_room (duration s.latch (s.build.highCount.toNat - s.build.trailCount.toNat))
      (not_merges_on_of_ready hready) (by bv_omega)
    simp only [emit, segOn, hon]
    exact addPulse_of_room _ (not_merges_off_appendPulse_on _ (by omega)) (by simp; bv_omega)
  | off c => exact addPulse_of_merges _ (merges_of_lastPulseOff hready)
  | nothing => rfl

/-- Without room for both its pulses an ON segment ends in the abort of the state it was sent in: the abort discards
what was appended before it (43_waveform.md R229). -/
theorem emit_full {a : Sent} {s : State} (hready : ReadyFor a s)
    (hcap : s.pulseCount.toNat ≤ s.build.maxPulses.toNat) (hfull : ¬ Fits a s) :
    emit a s = .aborted (capacityAbort s) := by
  cases a with
  | on =>
    simp only [ReadyFor, Fits] at hready hfull
    have hmax := s.build.maxPulses.isLt
    have hm := not_merges_on_of_ready hready
    by_cases heq : s.pulseCount = s.build.maxPulses
    · simp only [emit, segOn, addPulse_of_full _ hm heq]
    · simp only [emit, segOn, addPulse_of_room _ hm heq]
      exact addPulse_of_full _ (not_merges_off_appendPulse_on _ (by bv_omega)) (by simp; bv_omega)
  | off | nothing => exact absurd trivial hfull

/-! ### The rows -/

/-- What a builder row sends (43_waveform.md R222 to R227); none where it has no byte to send, and for the rows that
are not the builder's. -/
def rowSends : Instr → State → Option Sent
  | .stMessageStart, _ => some .on
  | .stByteStart, _ => some .on
  | .stSendByte, s => (byteAt s.txbuf s.bi.toNat).map fun b =>
      if b &&& s.bm ≠ 0 then .on else .off s.build.lowCount.toNat
  | .stMessageEnd, _ => some .on
  | .stGapStart, s => some (.off s.build.gapCount.toNat)
  | .stGapEnd, s =>
      some (if s.latch.repeats.toNat ≤ s.rep.toNat + 1 then .nothing else .off s.build.highCount.toNat)
  | .stIdle, _ => some .nothing
  | _, _ => none

/-- What a row writes after its segment: its next state, or FINISH (43_waveform.md R222 to R228). -/
def rowEnd : Instr → Sent → State → State
  | .stMessageStart, _, s => { s with st := .byteStart }
  | .stByteStart, _, s => { s with st := .sendByte }
  | .stSendByte, _, s => nextBit s
  | .stMessageEnd, _, s => afterMessage s
  | .stGapStart, _, s => afterGapUnit s
  | .stGapEnd, .nothing, s => finish s
  | .stGapEnd, _, s => { s with st := .messageStart }
  | _, _, s => s

/-- The one form of a builder row. -/
theorem exec_row {i : Instr} {s : State} {a : Sent} (h : rowSends i s = some a) :
    exec i s = thenStep (emit a (segmentStart i s)) (rowEnd i a) := by
  cases i
  case stSendByte =>
    obtain ⟨b, hb, rfl⟩ := Option.map_eq_some_iff.1 h
    simp only [exec, execStSendByte, hb]
    split <;> rfl
  case stGapEnd =>
    cases h
    by_cases hlast : s.latch.repeats.toNat ≤ s.rep.toNat + 1
    · rw [exec_stGapEnd_last hlast, if_pos hlast]
      rfl
    · rw [exec_stGapEnd_more hlast, if_neg hlast]
      rfl
  case stMessageStart | stByteStart | stMessageEnd | stGapStart | stIdle =>
    cases h
    rfl
  all_goals cases h

theorem readyFor_segmentStart {a : Sent} {i : Instr} {s : State} :
    ReadyFor a (segmentStart i s) ↔ ReadyFor a s := by
  unfold segmentStart
  cases a <;> split <;> rfl

theorem fits_segmentStart {a : Sent} {i : Instr} {s : State} : Fits a (segmentStart i s) ↔ Fits a s := by
  unfold segmentStart
  cases a <;> split <;> rfl

/-- A row whose segment fits. -/
theorem exec_row_fits {i : Instr} {s : State} {a : Sent} (h : rowSends i s = some a) (hready : ReadyFor a s)
    (hfits : Fits a s) : exec i s = .next (rowEnd i a (emitted a (segmentStart i s))) := by
  rw [exec_row h, emit_fits (readyFor_segmentStart.2 hready) (fits_segmentStart.2 hfits)]
  rfl

theorem segmentStart_pulseCount (i : Instr) (s : State) : (segmentStart i s).pulseCount = s.pulseCount := by
  rw [segmentStart_controlOnly i s]

theorem segmentStart_build (i : Instr) (s : State) : (segmentStart i s).build = s.build := by
  rw [segmentStart_controlOnly i s]

/-- A row whose segment does not fit is aborted (43_waveform.md R229). -/
theorem exec_row_full {i : Instr} {s : State} {a : Sent} (h : rowSends i s = some a) (hready : ReadyFor a s)
    (hcap : s.pulseCount.toNat ≤ s.build.maxPulses.toNat) (hfull : ¬ Fits a s) :
    exec i s = .next (capacityAbort (segmentStart i s)) := by
  rw [exec_row h, emit_full (readyFor_segmentStart.2 hready) ?_ (mt fits_segmentStart.1 hfull)]
  · rfl
  · rw [segmentStart_pulseCount, segmentStart_build]
    exact hcap

end Sys2Proof.Machine

/-! ## BUILD and the builder rows -/

namespace Sys2Proof.Machine

open Sys2Proof.Claims

/-- BUILD by its checks in their order (43_waveform.md R210, R211). -/
theorem buildWave_eq (s : State) :
    buildWave s =
      if s.bufValid = false then raise .validation 0 0 4 .idle (clearWave s)
      else if s.cfgRepeats = 0 then raise .validation 0 0 2 .idle (clearWave s)
      else if s.cfgPeriod = 0 then raise .validation 0 0 3 .idle (clearWave s)
      else startBuild (clearWave s) := rfl

theorem raise_validation_eq (sub : BitVec 4) (s : State) :
    raise .validation 0 0 sub .idle s = validationRecorded sub.toNat 0 s := by
  rw [raise, errWord_idle]
  rfl

/-- Settles O27, by BUILD's checks in their order. -/
theorem buildClearsValidatesAndLatches : Obligations.BuildClearsValidatesAndLatches := by
  intro ign s hb
  rw [exec_build_idle ign hb, buildWave_eq]
  simp only [raise_validation_eq, apply_ite Host.Outcome.next]
  rfl

/-- Settles O34: the row of Idle is the identity, and it is what a step with nothing enabled runs. -/
theorem idleHasNoBuilderStep : Obligations.IdleHasNoBuilderStep := by
  refine fun s => ⟨rfl, fun hb hheld hin => ?_⟩
  rw [step_builder s hheld hin, builderInstr, hb]
  rfl

/-! ### The segments as the rules give them -/

theorem duration_add (l : Latch) (m n : Nat) : duration l m + duration l n = duration l (m + n) := by
  rw [duration, duration, duration, ← BitVec.ofNat_add, Nat.add_mul]

theorem pulseCount_succ_of_fits {s : State} (hfits : Fits .on s) :
    (s.pulseCount + 1).toNat = s.pulseCount.toNat + 1 := by
  have hmax := s.build.maxPulses.isLt
  simp only [Fits] at hfits
  bv_omega

theorem emitted_on_pulseCount {s : State} (hfits : Fits .on s) :
    (emitted .on s).pulseCount.toNat = s.pulseCount.toNat + 2 := by
  have hmax := s.build.maxPulses.isLt
  simp only [Fits] at hfits
  simp only [emitted, appendPulse_pulseCount]
  bv_omega

/-- The first pulse of an ON segment (43_waveform.md R231). -/
theorem pmemRead_emitted_on_first {s : State} (hfits : Fits .on s) :
    pmemRead (emitted .on s) s.pulseCount.toNat =
      ⟨(masks s.latch .on).1, (masks s.latch .on).2,
        duration s.latch (s.build.highCount.toNat - s.build.trailCount.toNat)⟩ := by
  have hone := pulseCount_succ_of_fits hfits
  exact (pmemRead_appendPulse_other _ _ _ (by rw [appendPulse_pulseCount]; omega)).trans
    (pmemRead_appendPulse_new _ _ _)

/-- The second pulse of an ON segment. -/
theorem pmemRead_emitted_on_second {s : State} (hfits : Fits .on s) :
    pmemRead (emitted .on s) (s.pulseCount.toNat + 1) =
      ⟨(masks s.latch .off).1, (masks s.latch .off).2, duration s.latch s.build.trailCount.toNat⟩ := by
  rw [← pulseCount_succ_of_fits hfits]
  exact pmemRead_appendPulse_new _ _ _

theorem pmemRead_emitted_on_other {s : State} (hfits : Fits .on s) {i : Nat} (hi : i ≠ s.pulseCount.toNat)
    (hi' : i ≠ s.pulseCount.toNat + 1) : pmemRead (emitted .on s) i = pmemRead s i :=
  (pmemRead_appendPulse_other _ _ _ (by rwa [appendPulse_pulseCount, pulseCount_succ_of_fits hfits])).trans
    (pmemRead_appendPulse_other _ _ _ hi)

theorem trailCount_lt_of_wf {b : BuildParams} (hwf : b.wf = true) :
    1 ≤ b.trailCount.toNat ∧ b.trailCount.toNat < b.highCount.toNat := by
  simp only [BuildParams.wf, Bool.and_eq_true, decide_eq_true_eq] at hwf
  omega

/-- An ON segment that fits is its two pulses, together HIGH_COUNT ticks (43_waveform.md R230, R231). -/
theorem onSegmentAppended_emitted {s : State} (hwf : s.build.wf = true) (hfits : Fits .on s) :
    OnSegmentAppended s (emitted .on s) := by
  obtain ⟨_, htrail⟩ := trailCount_lt_of_wf hwf
  refine ⟨emitted_on_pulseCount hfits, pmemRead_emitted_on_first hfits, pmemRead_emitted_on_second hfits,
    fun i => pmemRead_emitted_on_other hfits, ?_⟩
  simp only [emitted, appendPulse_total, BitVec.add_assoc, duration_add]
  rw [Nat.sub_add_cancel htrail.le]
  rfl

theorem offSegmentMerged_emitted (c : Nat) (s : State) : OffSegmentMerged c s (emitted (.off c) s) :=
  ⟨rfl, pmemRead_mergePulse_last _ s, fun _ => pmemRead_mergePulse_other _ s, rfl⟩

/-! ### The pulses of a row and the rest of its state -/

/-- `s` with the pulse list of `t`. -/
def withPulses (t s : State) : State :=
  { s with pmem := t.pmem, pulseCount := t.pulseCount, total := t.total }

/-- The pulse lists are the same. -/
structure SamePulses (s t : State) : Prop where
  pmem : t.pmem = s.pmem
  pmemEpoch : t.pmemEpoch = s.pmemEpoch
  pulseCount : t.pulseCount = s.pulseCount
  total : t.total = s.total

theorem SamePulses.trans {s t u : State} (h : SamePulses s t) (h' : SamePulses t u) : SamePulses s u :=
  ⟨h'.pmem.trans h.pmem, h'.pmemEpoch.trans h.pmemEpoch, h'.pulseCount.trans h.pulseCount, h'.total.trans h.total⟩

theorem SamePulses.pmemRead {s t : State} (h : SamePulses s t) : Machine.pmemRead t = Machine.pmemRead s :=
  funext fun i => pmemRead_congr t s i h.pmem h.pmemEpoch

theorem ControlOnly.samePulses {s t : State} (h : ControlOnly s t) : SamePulses s t := by
  rw [h]
  constructor <;> rfl

theorem BuilderFrame.samePulses {s t : State} (h : BuilderFrame s t) : SamePulses s t :=
  ⟨h.pmem, h.pmemEpoch, h.pulseCount, h.total⟩

theorem SamePulses.withPulses {s t : State} (h : SamePulses s t) (u : State) :
    withPulses t u = withPulses s u := by
  simp only [Machine.withPulses, h.pmem, h.pulseCount, h.total]

theorem SamePulses.onSegmentAppended {s t u : State} (h : SamePulses t u) (hs : OnSegmentAppended s t) :
    OnSegmentAppended s u := by
  unfold OnSegmentAppended at *
  rwa [h.pmemRead, h.pulseCount, h.total]

theorem SamePulses.offSegmentMerged {s t u : State} {c : Nat} (h : SamePulses t u) (hs : OffSegmentMerged c s t) :
    OffSegmentMerged c s u := by
  unfold OffSegmentMerged at *
  rwa [h.pmemRead, h.pulseCount, h.total]

/-- A segment changes the pulse list alone. -/
theorem emitted_eq_withPulses (a : Sent) (s : State) : emitted a s = withPulses (emitted a s) s := by
  cases a <;> rfl

theorem emitted_segmentStart_samePulses (i : Instr) (a : Sent) (s : State) :
    SamePulses (emitted a s) (emitted a (segmentStart i s)) := by
  unfold segmentStart
  cases a <;> split <;> constructor <;> rfl

theorem rowEnd_controlOnly (i : Instr) (a : Sent) (s : State) : ControlOnly s (rowEnd i a s) := by
  cases i
  case stSendByte => exact nextBit_controlOnly s
  case stMessageEnd => exact afterMessage_controlOnly s
  case stGapStart => exact afterGapUnit_controlOnly s
  case stGapEnd => cases a <;> rfl
  all_goals rfl

/-- What a row sends does not depend on what it writes around its segment. -/
theorem row_samePulses (i : Instr) (a : Sent) (s : State) :
    SamePulses (emitted a s) (rowEnd i a (emitted a (segmentStart i s))) :=
  (emitted_segmentStart_samePulses i a s).trans (rowEnd_controlOnly i a _).samePulses

/-- A row whose segment fits: the pulses are those of the segment, the rest is what the row writes. -/
theorem exec_row_withPulses {i : Instr} {s : State} {a : Sent} (h : rowSends i s = some a) (hready : ReadyFor a s)
    (hfits : Fits a s) :
    ∃ t, exec i s = .next t ∧ SamePulses (emitted a s) t ∧ t = rowEnd i a (withPulses t (segmentStart i s)) := by
  refine ⟨_, exec_row_fits h hready hfits, row_samePulses i a s, ?_⟩
  rw [(rowEnd_controlOnly i a _).samePulses.withPulses, ← emitted_eq_withPulses]

theorem exec_row_on {i : Instr} {s : State} (h : rowSends i s = some .on) (hwf : s.build.wf = true)
    (hready : ReadyForOn s) (hroom : s.pulseCount.toNat + 2 ≤ s.build.maxPulses.toNat) :
    ∃ t, exec i s = .next t ∧ OnSegmentAppended s t ∧ t = rowEnd i .on (withPulses t (segmentStart i s)) := by
  obtain ⟨t, hexec, hpulses, ht⟩ := exec_row_withPulses h hready hroom
  exact ⟨t, hexec, hpulses.onSegmentAppended (onSegmentAppended_emitted hwf hroom), ht⟩

theorem exec_row_off {i : Instr} {s : State} {c : Nat} (h : rowSends i s = some (.off c)) (hlast : LastPulseOff s) :
    ∃ t, exec i s = .next t ∧ OffSegmentMerged c s t ∧ t = rowEnd i (.off c) (withPulses t (segmentStart i s)) := by
  obtain ⟨t, hexec, hpulses, ht⟩ := exec_row_withPulses h hlast trivial
  exact ⟨t, hexec, hpulses.offSegmentMerged (offSegmentMerged_emitted c s), ht⟩

/-! ### The rows with a segment that fits -/

/-- Settles O28, by the row of an ON segment. -/
theorem messageStartSendsItsFramingPulse : Obligations.MessageStartSendsItsFramingPulse :=
  fun _ hwf hready hroom => exec_row_on (i := .stMessageStart) rfl hwf hready hroom

/-- Settles O29, by the row of an ON segment. -/
theorem byteStartSendsItsPulseAndStartsAtTheTopBit : Obligations.ByteStartSendsItsPulseAndStartsAtTheTopBit :=
  fun _ hwf hready hroom => exec_row_on (i := .stByteStart) rfl hwf hready hroom

theorem bi_le_of_byteAt {x : Bytes10} {i : Nat} {b : Byte} (h : byteAt x i = some b) : i ≤ 9 := by
  by_contra hgt
  rw [byteAt_none _ _ (by omega)] at h
  cases h

/-- SendByte's walk with each field written out (43_waveform.md R224). -/
theorem nextBit_eq {s : State} (hbi : s.bi.toNat ≤ 9) (hst : s.st = .sendByte) :
    nextBit s = { s with
      bm := s.bm >>> 1
      bi := if s.bm >>> 1 = 0 then s.bi + 1 else s.bi
      st := if s.bm >>> 1 = 0 then (if s.bi.toNat = 9 then .messageEnd else .byteStart) else .sendByte } := by
  have hlast : 10 ≤ (s.bi + 1).toNat ↔ s.bi.toNat = 9 := by bv_omega
  simp only [nextBit, hlast]
  by_cases hend : s.bm >>> 1 = 0
  · simp only [if_pos hend]
  · simp only [if_neg hend, ← hst]

theorem rowSends_sendByte {s : State} {b : Byte} (h : byteAt s.txbuf s.bi.toNat = some b) :
    rowSends .stSendByte s = some (if b &&& s.bm ≠ 0 then .on else .off s.build.lowCount.toNat) := by
  simp only [rowSends, h, Option.map_some]

/-- Settles O30: the bit says which segment the row sends, and `nextBit_eq` is its walk. -/
theorem sendByteSendsOneBit : Obligations.SendByteSendsOneBit := by
  intro s b hwf hbyte hst
  have hwalk (t : State) := nextBit_eq (s := withPulses t s) (bi_le_of_byteAt hbyte) hst
  refine ⟨fun hbit hready hroom => ?_, fun hbit hlast => ?_⟩
  · obtain ⟨t, hexec, hon, ht⟩ := exec_row_on (by rw [rowSends_sendByte hbyte, if_pos hbit]) hwf hready hroom
    exact ⟨t, hexec, hon, ht.trans (hwalk t)⟩
  · obtain ⟨t, hexec, hoff, ht⟩ := exec_row_off (by rw [rowSends_sendByte hbyte, if_neg (not_not.2 hbit)]) hlast
    exact ⟨t, hexec, hoff, ht.trans (hwalk t)⟩

/-- Settles O31, by the row of an ON segment and the two ends of a message. -/
theorem messageEndFinishesOrStartsTheGap : Obligations.MessageEndFinishesOrStartsTheGap := by
  intro s hwf hready hroom
  obtain ⟨t, hexec, hon, ht⟩ := exec_row_on (i := .stMessageEnd) rfl hwf hready hroom
  exact ⟨t, hexec, hon, fun hlast => ht.trans (if_pos hlast), fun hmore => ht.trans (if_neg hmore)⟩

/-- GapStart's count with each field written out (43_waveform.md R226). -/
theorem afterGapUnit_eq {s : State} (hst : s.st = .gapStart) :
    afterGapUnit s = { s with
      gr := if s.gr = 0 then 0 else s.gr - 1, st := if s.gr = 0 then .gapEnd else .gapStart } := by
  unfold afterGapUnit
  by_cases hgr : s.gr = 0
  · simp only [if_pos hgr]
    rw [← hgr]
  · simp only [if_neg hgr, ← hst]

/-- Settles O32, by the row of an OFF segment and the count of the gap units. -/
theorem gapStartSendsOneGapUnit : Obligations.GapStartSendsOneGapUnit := by
  intro s hlast hst
  obtain ⟨t, hexec, hoff, ht⟩ := exec_row_off (i := .stGapStart) rfl hlast
  refine ⟨t, hexec, hoff, ht.trans ((afterGapUnit_eq (s := withPulses t s) hst).trans ?_)⟩
  rw [withPulses, hoff.1]

/-- Settles O33: GapEnd sends nothing after the last message, and an OFF segment before another one. -/
theorem gapEndFinishesOrRestarts : Obligations.GapEndFinishesOrRestarts := by
  refine fun s => ⟨fun hlast => exec_stGapEnd_last hlast, fun hmore hoff => ?_⟩
  obtain ⟨t, hexec, hmerged, ht⟩ :=
    exec_row_off (i := .stGapEnd) (by rw [rowSends, if_neg (by omega)]) hoff
  refine ⟨t, hexec, hmerged, ht.trans ?_⟩
  rw [withPulses, hmerged.1]
  rfl

/-! ### The row whose segment does not fit -/

/-- The two bytes of a 16-bit number are that number. -/
theorem bytes_toNat (v : BitVec 16) :
    (v.extractLsb' 0 8).toNat + 0x100 * (v.extractLsb' 8 8).toNat = v.toNat := by
  simp only [extractLsb'_toNat_eq_div_mod]
  omega

/-- ERRINFO of the capacity abort: the capacity, and the code of the failing action (30_encoding.md R92). -/
theorem errWord_capacity (v : BitVec 16) (t : BuilderState) :
    errWord (v.extractLsb' 0 8) (v.extractLsb' 8 8) 0 t =
      BitVec.ofNat 32 (v.toNat + 0x1000000 * (stateCode t).toNat) := by
  rw [errWord, bytes_toNat]
  rfl

theorem rowSends_of_sendsOnSegment {i : Instr} {s : State} (h : SendsOnSegment i s) : rowSends i s = some .on := by
  obtain rfl | rfl | rfl | ⟨rfl, b, hbyte, hbit⟩ := h
  · rfl
  · rfl
  · rfl
  · rw [rowSends_sendByte hbyte, if_pos hbit]

/-- What the four rows of an ON segment write before it (43_waveform.md R222, R223). -/
theorem segmentStart_of_sendsOnSegment {i : Instr} {s : State} (h : SendsOnSegment i s) :
    segmentStart i s = { s with
      bi := if i = .stMessageStart then 0 else s.bi, bm := if i = .stByteStart then 0x80 else s.bm } := by
  obtain rfl | rfl | rfl | ⟨rfl, _⟩ := h <;> rfl

/-- Settles O35: the abort is taken in the state that the row's segment was sent in. -/
theorem onSegmentBeyondCapacityAborts : Obligations.OnSegmentBeyondCapacityAborts := by
  intro i s hsends hready hcap hfull
  refine ⟨_, exec_row_full (rowSends_of_sendsOnSegment hsends) hready hcap (by simp only [Fits]; omega), ?_⟩
  rw [segmentStart_of_sendsOnSegment hsends, ← errWord_capacity]
  rfl

end Sys2Proof.Machine

/-! ## Every step keeps the shape of the pulse list -/

namespace Sys2Proof.Machine

open Sys2Proof.Claims

/-- The clauses of `WaveformLegal` on the pulse list alone (43_waveform.md R243, R244). -/
structure PulsesLegal (s : State) : Prop where
  even : s.pulseCount.toNat % 2 = 0
  written : ∀ i, i < s.pulseCount.toNat → (pmemLookup s.pmem i).isSome = true
  onPulse : ∀ i, i < s.pulseCount.toNat → i % 2 = 0 →
    pmemRead s i = ⟨(masks s.latch .on).1, (masks s.latch .on).2,
      duration s.latch (s.build.highCount.toNat - s.build.trailCount.toNat)⟩
  offPulse : ∀ i, i < s.pulseCount.toNat → i % 2 = 1 →
    ((pmemRead s i).on, (pmemRead s i).off) = masks s.latch .off
  total : s.total = durationSum s s.pulseCount.toNat

theorem waveformLegal_iff (s : State) :
    WaveformLegal s ↔ PulsesLegal s ∧ (s.busy = true → s.st ≠ .messageStart → 0 < s.pulseCount.toNat) :=
  ⟨fun ⟨heven, hwritten, hon, hoff, htotal, hpos⟩ => ⟨⟨heven, hwritten, hon, hoff, htotal⟩, hpos⟩,
    fun ⟨⟨heven, hwritten, hon, hoff, htotal⟩, hpos⟩ => ⟨heven, hwritten, hon, hoff, htotal, hpos⟩⟩

/-- Without a pulse every clause about a pulse is empty. -/
theorem pulsesLegal_of_count_zero {s : State} (hcount : s.pulseCount = 0) (htotal : s.total = 0) : PulsesLegal s := by
  have hzero : s.pulseCount.toNat = 0 := by rw [hcount]; rfl
  refine ⟨by omega, fun i hi => by omega, fun i hi => by omega, fun i hi => by omega, ?_⟩
  rw [hzero, htotal]
  rfl

/-- The last of some legal pulses is OFF (43_waveform.md R243). -/
theorem PulsesLegal.lastPulseOff {s : State} (h : PulsesLegal s) (hpos : 0 < s.pulseCount.toNat) : LastPulseOff s :=
  ⟨hpos, h.offPulse _ (by omega) (by have := h.even; omega)⟩

theorem PulsesLegal.readyForOn {s : State} (h : PulsesLegal s) : ReadyForOn s :=
  (Nat.eq_zero_or_pos s.pulseCount.toNat).imp id h.lastPulseOff

/-! ### The sum of the durations -/

theorem durationSum_congr {s t : State} {n : Nat} (h : ∀ i, i < n → pmemRead t i = pmemRead s i) :
    durationSum t n = durationSum s n := by
  induction n with
  | zero => rfl
  | succ n ih => rw [durationSum, durationSum, ih fun i hi => h i (by omega), h n (by omega)]

/-- A merge adds its duration. -/
theorem durationSum_mergePulse (d : BitVec 64) {s : State} (hpos : 0 < s.pulseCount.toNat) :
    durationSum (mergePulse d s) s.pulseCount.toNat = durationSum s s.pulseCount.toNat + d := by
  obtain ⟨n, hn⟩ := Nat.exists_eq_add_of_lt hpos
  have hlast := pmemRead_mergePulse_last d s
  have hother (i : Nat) (hi : i ≠ s.pulseCount.toNat - 1) := pmemRead_mergePulse_other d s hi
  simp only [hn, Nat.zero_add, Nat.add_sub_cancel] at hlast hother ⊢
  rw [durationSum, durationSum, hlast, durationSum_congr fun i hi => hother i hi.ne, BitVec.add_assoc]

/-! ### The segments -/

theorem pmemLookup_write_isSome {m : PulseMem} {i k : Nat} {p : Pulse} (h : k = i ∨ (pmemLookup m k).isSome = true) :
    (pmemLookup (pmemWrite m i p) k).isSome = true := by
  by_cases hk : k = i
  · rw [hk, pmemLookup_write_same]
    rfl
  · rw [pmemLookup_write_other _ _ _ _ hk]
    exact h.resolve_left hk

/-- An OFF segment keeps the shape: only the last pulse, an OFF one, gets longer. -/
theorem PulsesLegal.mergePulse {s : State} (h : PulsesLegal s) (hpos : 0 < s.pulseCount.toNat) (d : BitVec 64) :
    PulsesLegal (mergePulse d s) where
  even := h.even
  written := fun i hi => pmemLookup_write_isSome (.inr (h.written i hi))
  onPulse := fun i hi heven => by
    have hodd := h.even
    rw [pmemRead_mergePulse_other d s (by omega)]
    exact h.onPulse i hi heven
  offPulse := fun i hi hodd => by
    by_cases hlast : i = s.pulseCount.toNat - 1
    · rw [hlast, pmemRead_mergePulse_last]
      exact (h.lastPulseOff hpos).2
    · rw [pmemRead_mergePulse_other d s hlast]
      exact h.offPulse i hi hodd
  total := by
    rw [mergePulse_total, mergePulse_pulseCount, durationSum_mergePulse d hpos, ← h.total]

/-- An ON segment keeps the shape: an ON pulse at an even index, an OFF one after it. -/
theorem PulsesLegal.emitted_on {s : State} (h : PulsesLegal s) (hfits : Fits .on s) : PulsesLegal (emitted .on s) := by
  have heven := h.even
  have hcount := emitted_on_pulseCount hfits
  have hsucc := pulseCount_succ_of_fits hfits
  have hold {i : Nat} (hi : i < s.pulseCount.toNat) : pmemRead (emitted .on s) i = pmemRead s i :=
    pmemRead_emitted_on_other hfits (by omega) (by omega)
  refine ⟨by omega, fun i hi => ?_, fun i hi hieven => ?_, fun i hi hiodd => ?_, ?_⟩
  · refine pmemLookup_write_isSome ?_
    rw [appendPulse_pulseCount, hsucc]
    by_cases hlast : i = s.pulseCount.toNat + 1
    · exact .inl hlast
    · refine .inr (pmemLookup_write_isSome ?_)
      by_cases hfirst : i = s.pulseCount.toNat
      · exact .inl hfirst
      · exact .inr (h.written i (by omega))
  · by_cases hfirst : i = s.pulseCount.toNat
    · rw [hfirst]
      exact pmemRead_emitted_on_first hfits
    · rw [hold (by omega)]
      exact h.onPulse i (by omega) hieven
  · by_cases hlast : i = s.pulseCount.toNat + 1
    · rw [hlast, pmemRead_emitted_on_second hfits]
      rfl
    · rw [hold (by omega)]
      exact h.offPulse i (by omega) hiodd
  · rw [hcount, durationSum, durationSum, durationSum_congr fun i hi => hold hi, pmemRead_emitted_on_first hfits,
      pmemRead_emitted_on_second hfits, ← h.total]
    rfl

theorem PulsesLegal.emitted {s : State} {a : Sent} (h : PulsesLegal s) (hready : ReadyFor a s) (hfits : Fits a s) :
    PulsesLegal (emitted a s) := by
  cases a with
  | on => exact h.emitted_on hfits
  | off c => exact h.mergePulse hready.1 _
  | nothing => exact h

/-- The shape is a matter of the pulse list, the latched configuration and the build constants. -/
theorem PulsesLegal.congr {s t : State} (h : PulsesLegal s) (hp : SamePulses s t) (hlatch : t.latch = s.latch)
    (hbuild : t.build = s.build) : PulsesLegal t := by
  have hsum : durationSum t = durationSum s := funext fun n => durationSum_congr fun i _ => congrFun hp.pmemRead i
  obtain ⟨heven, hwritten, hon, hoff, htotal⟩ := h
  constructor <;> simpa only [hp.pmem, hp.pmemRead, hp.pulseCount, hp.total, hlatch, hbuild, hsum]

theorem ControlOnly.pulsesLegal {s t : State} (h : ControlOnly s t) (hs : PulsesLegal s) : PulsesLegal t :=
  hs.congr h.samePulses (by rw [h]) (by rw [h])

/-! ### The step -/

/-- While BUSY the enabled row of a legal state sends something or finishes (43_waveform.md R220). -/
theorem rowSends_builderInstr {s : State} (hs : Legal s) (hbusy : s.busy = true) :
    ∃ a, rowSends (builderInstr s) s = some a := by
  obtain ⟨_, _, hsend, _⟩ := hs
  cases hst : s.st <;> simp only [builderInstr, hbusy, hst, if_true]
  case sendByte =>
    obtain ⟨b, hb⟩ := byteAt_isSome s.txbuf s.bi.toNat (by have := hsend hst; omega)
    exact ⟨_, rowSends_sendByte hb⟩
  all_goals exact ⟨_, rfl⟩

/-- Only states past the first MessageStart send an OFF segment (43_waveform.md R222). -/
theorem st_ne_messageStart_of_off {s : State} {c : Nat} (h : rowSends (builderInstr s) s = some (.off c)) :
    s.st ≠ .messageStart := by
  intro hst
  unfold builderInstr at h
  split at h
  · rw [hst] at h
    cases h
  · cases h

/-- Between two steps the pulse list is ready for what comes (43_waveform.md R243). -/
theorem readyFor_of_waveformLegal {s : State} {a : Sent} (hw : WaveformLegal s) (hbusy : s.busy = true)
    (ha : rowSends (builderInstr s) s = some a) : ReadyFor a s := by
  obtain ⟨hp, hpos⟩ := (waveformLegal_iff s).1 hw
  cases a with
  | on => exact hp.readyForOn
  | off c => exact hp.lastPulseOff (hpos hbusy (st_ne_messageStart_of_off ha))
  | nothing => exact trivial

theorem st_ne_idle_of_busy {s : State} (hs : Legal s) (hbusy : s.busy = true) : s.st ≠ .idle := by
  obtain ⟨hidle, _⟩ := hs
  exact fun h => by simp [hidle.1 h] at hbusy

/-- While BUSY only GapEnd sends nothing, after the last message (43_waveform.md R227). -/
theorem st_of_sends_nothing {s : State} (hs : Legal s) (hbusy : s.busy = true)
    (ha : rowSends (builderInstr s) s = some .nothing) :
    s.st = .gapEnd ∧ s.latch.repeats.toNat ≤ s.rep.toNat + 1 := by
  have hidle := st_ne_idle_of_busy hs hbusy
  cases hst : s.st <;> simp only [builderInstr, hbusy, hst, if_true] at ha
  case idle => exact absurd hst hidle
  case sendByte =>
    obtain ⟨b, _, hb⟩ := Option.map_eq_some_iff.1 ha
    split at hb <;> cases hb
  case gapEnd =>
    refine ⟨rfl, ?_⟩
    by_contra hmore
    rw [rowSends, if_neg hmore] at ha
    cases ha
  all_goals cases ha

/-- A row that sends nothing ends the build (43_waveform.md R227, R228). -/
theorem rowEnd_nothing {s : State} (hs : Legal s) (hbusy : s.busy = true)
    (ha : rowSends (builderInstr s) s = some .nothing) (u : State) : rowEnd (builderInstr s) .nothing u = finish u := by
  rw [builderInstr, hbusy, (st_of_sends_nothing hs hbusy ha).1]
  rfl

/-- After a segment there is a pulse. -/
theorem emitted_pulseCount_pos {s : State} {a : Sent} (ha : a ≠ .nothing) (hready : ReadyFor a s) (hfits : Fits a s) :
    0 < (emitted a s).pulseCount.toNat := by
  cases a with
  | on => exact (emitted_on_pulseCount hfits).symm ▸ Nat.succ_pos _
  | off c => exact hready.1
  | nothing => exact absurd rfl ha

theorem capacityAbort_waveformLegal (s : State) : WaveformLegal (capacityAbort s) :=
  (waveformLegal_iff _).2 ⟨pulsesLegal_of_count_zero rfl rfl, nofun⟩

/-- The builder's step from a legal state: its segment fits, or it is aborted (43_waveform.md R221). -/
theorem exec_builderInstr_cases {s : State} (hs : Legal s) (hw : WaveformLegal s) (hbusy : s.busy = true) :
    ∃ a, rowSends (builderInstr s) s = some a ∧ ReadyFor a s ∧
      ((Fits a s ∧ exec (builderInstr s) s =
          .next (rowEnd (builderInstr s) a (emitted a (segmentStart (builderInstr s) s)))) ∨
        (¬ Fits a s ∧ exec (builderInstr s) s = .next (capacityAbort (segmentStart (builderInstr s) s)))) := by
  obtain ⟨a, ha⟩ := rowSends_builderInstr hs hbusy
  have hready := readyFor_of_waveformLegal hw hbusy ha
  refine ⟨a, ha, hready, ?_⟩
  by_cases hfits : Fits a s
  · exact .inl ⟨hfits, exec_row_fits ha hready hfits⟩
  · exact .inr ⟨hfits, exec_row_full ha hready (capacity_of_legal hs) hfits⟩

/-- A row whose segment fits keeps the shape of the pulse list. -/
theorem row_waveformLegal {s : State} {a : Sent} (hs : Legal s) (hw : WaveformLegal s) (hbusy : s.busy = true)
    (ha : rowSends (builderInstr s) s = some a) (hready : ReadyFor a s) (hfits : Fits a s) :
    WaveformLegal (rowEnd (builderInstr s) a (emitted a (segmentStart (builderInstr s) s))) := by
  have hstart := (segmentStart_controlOnly (builderInstr s) s).pulsesLegal ((waveformLegal_iff s).1 hw).1
  have hready' := (readyFor_segmentStart (i := builderInstr s)).2 hready
  have hfits' := (fits_segmentStart (i := builderInstr s)).2 hfits
  have hend := rowEnd_controlOnly (builderInstr s) a (emitted a (segmentStart (builderInstr s) s))
  refine (waveformLegal_iff _).2 ⟨hend.pulsesLegal (hstart.emitted hready' hfits'), fun hb _ => ?_⟩
  rw [hend.samePulses.pulseCount]
  refine emitted_pulseCount_pos ?_ hready' hfits'
  rintro rfl
  rw [rowEnd_nothing hs hbusy ha] at hb
  cases hb

theorem exec_builderInstr_waveformLegal {s t : State} (hs : Legal s) (hw : WaveformLegal s)
    (h : exec (builderInstr s) s = .next t) : WaveformLegal t := by
  by_cases hbusy : s.busy = true
  · obtain ⟨a, ha, hready, ⟨hfits, e⟩ | ⟨_, e⟩⟩ := exec_builderInstr_cases hs hw hbusy <;> cases e.symm.trans h
    · exact row_waveformLegal hs hw hbusy ha hready hfits
    · exact capacityAbort_waveformLegal _
  · rw [builderInstr, if_neg hbusy] at h
    cases h
    exact hw

theorem BuilderFrame.waveformLegal {s t : State} (h : BuilderFrame s t) (hw : WaveformLegal s) : WaveformLegal t := by
  rw [waveformLegal_iff] at *
  rw [h.busy, h.st, h.pulseCount]
  exact ⟨hw.1.congr h.samePulses h.latch h.build, hw.2⟩

/-- The port's own fields are no part of the builder. -/
theorem port_builderFrame (s : State) (held : Option Word) (rest : List Input) :
    BuilderFrame s { s with heldOp := held, inputs := rest } := by
  constructor <;> rfl

/-- BUILD leaves no pulse, and starts in MessageStart if it starts (43_waveform.md R210). -/
theorem buildWave_waveformLegal {s : State} (hbusy : s.busy = false) : WaveformLegal (buildWave s) := by
  rw [waveformLegal_iff]
  obtain ⟨sub, e⟩ | ⟨_, e⟩ := buildWave_cases s <;> rw [e]
  · exact ⟨pulsesLegal_of_count_zero rfl rfl, fun hb => absurd (hbusy.symm.trans hb) (by simp)⟩
  · exact ⟨pulsesLegal_of_count_zero rfl rfl, fun _ hst => absurd rfl hst⟩

/-- Settles O48, by the inversion of the step: the builder's row finds the pulse list ready and keeps its shape or
aborts, which empties it; BUILD and the reset empty it too; nothing else touches it. -/
theorem stepKeepsWaveformLegal : Obligations.StepKeepsWaveformLegal := by
  intro s t hs hw h
  have hport held rest : WaveformLegal { s with heldOp := held, inputs := rest } :=
    (port_builderFrame s held rest).waveformLegal hw
  cases step_effect h with
  | @builder rest _ h =>
    exact exec_builderInstr_waveformLegal (s := { s with inputs := rest }) hs (hport s.heldOp rest) h
  | operation h =>
    obtain hframe | ⟨_, hbusy, rfl⟩ := (exec_opEffect (decodeOp_not_builderRow _) h).builderFrame_or_built
    · exact hframe.waveformLegal (hport _ _)
    · exact buildWave_waveformLegal hbusy
  | reset => exact (waveformLegal_iff _).2 ⟨pulsesLegal_of_count_zero rfl rfl, nofun⟩
  | read => exact (hostRead_builderFrame _ _).waveformLegal (hport s.heldOp _)
  | write => exact (hostWrite_builderFrame _ _ _).waveformLegal (hport s.heldOp _)

end Sys2Proof.Machine

/-! ## The plan of a build: what is left to send

`plan s` lists what the builder steps from `s` to the end of the build send, one entry for each step. A step takes the
head of the list (`plan_row`), so that the steps, the pulses and the ticks of a build are sums over it. -/

namespace Sys2Proof.Machine

open Sys2Proof.Claims

section Plan

variable (p : BuildParams) (l : Latch) (x : Bytes10)

/-- What SendByte sends for the bit of `b` under the mask `bm` (43_waveform.md R224). -/
def bitSent (b bm : Byte) : Sent := if b &&& bm ≠ 0 then .on else .off p.lowCount.toNat

/-- The bits of `b` from the mask `bm` down. -/
def bitsSent (b bm : Byte) : List Sent :=
  if bm = 0 then [] else bitSent p b bm :: bitsSent b (bm >>> 1)
termination_by bm.toNat
decreasing_by bv_omega

/-- A byte: its ByteStart and its bits (43_waveform.md R223, R224). -/
def byteSent (b : Byte) : List Sent := .on :: bitsSent p b 0x80

/-- The bytes from index `i` on. -/
def bytesSent (i : Nat) : List Sent := ((bytes x).drop i).flatMap (byteSent p)

/-- One framed message (43_waveform.md R222 to R225). -/
def messageSent : List Sent := .on :: (bytesSent p x 0 ++ [.on])

/-- The gap units with `g` extensions to come (43_waveform.md R226). -/
def gapSent (g : Nat) : List Sent := List.replicate (g + 1) (.off p.gapCount.toNat)

/-- From GapEnd on with `n` messages to come (43_waveform.md R225, R227). -/
def gapEndSent : Nat → List Sent
  | 0 => [.nothing]
  | n + 1 => .off p.highCount.toNat :: (messageSent p x ++
      if l.trailing = false ∧ n = 0 then [] else gapSent p l.gapMult.toNat ++ gapEndSent n)

/-- After a message with `n` messages to come: the end, or a gap (43_waveform.md R225). -/
def restSent (n : Nat) : List Sent :=
  if l.trailing = false ∧ n = 0 then [] else gapSent p l.gapMult.toNat ++ gapEndSent p l x n

end Plan

theorem gapEndSent_succ (p : BuildParams) (l : Latch) (x : Bytes10) (n : Nat) :
    gapEndSent p l x (n + 1) = .off p.highCount.toNat :: (messageSent p x ++ restSent p l x n) := rfl

/-- The messages after the one in progress (10_state.md R46). -/
def messagesLeft (s : State) : Nat := s.latch.repeats.toNat - (s.rep.toNat + 1)

/-- What the builder steps from `s` to the end of the build send. -/
def plan (s : State) : List Sent :=
  let rest := restSent s.build s.latch s.txbuf (messagesLeft s)
  match s.st with
  | .idle => []
  | .messageStart => messageSent s.build s.txbuf ++ rest
  | .byteStart => bytesSent s.build s.txbuf s.bi.toNat ++ .on :: rest
  | .sendByte =>
    (byteAt s.txbuf s.bi.toNat).elim [] (fun b => bitsSent s.build b s.bm) ++
      (bytesSent s.build s.txbuf (s.bi.toNat + 1) ++ .on :: rest)
  | .messageEnd => .on :: rest
  | .gapStart => gapSent s.build s.gr.toNat ++ gapEndSent s.build s.latch s.txbuf (messagesLeft s)
  | .gapEnd => gapEndSent s.build s.latch s.txbuf (messagesLeft s)

/-! ### A step takes the head of the plan -/

theorem bitsSent_zero (p : BuildParams) (b : Byte) : bitsSent p b 0 = [] := by
  rw [bitsSent, if_pos rfl]

theorem bitsSent_of_ne_zero (p : BuildParams) (b : Byte) {bm : Byte} (h : bm ≠ 0) :
    bitsSent p b bm = bitSent p b bm :: bitsSent p b (bm >>> 1) := by
  rw [bitsSent, if_neg h]

theorem oneBitMask_ne_zero {b : Byte} (h : oneBitMask b) : b ≠ 0 := by
  unfold oneBitMask at h
  obtain rfl | rfl | rfl | rfl | rfl | rfl | rfl | rfl := h <;> decide

theorem bytesSent_eq_cons (p : BuildParams) {x : Bytes10} {i : Nat} {b : Byte} (h : byteAt x i = some b) :
    bytesSent p x i = .on :: (bitsSent p b 0x80 ++ bytesSent p x (i + 1)) := by
  obtain ⟨hlt, rfl⟩ := List.getElem?_eq_some_iff.1 h
  rw [bytesSent, List.drop_eq_getElem_cons hlt, List.flatMap_cons]
  rfl

theorem bytesSent_past (p : BuildParams) (x : Bytes10) : bytesSent p x 10 = [] := rfl

theorem plan_messageStart {s : State} (w : State) (hst : s.st = .messageStart) :
    plan s = .on :: plan (rowEnd .stMessageStart .on (withPulses w (segmentStart .stMessageStart s))) := by
  simp [plan, hst, rowEnd, withPulses, segmentStart, messageSent, messagesLeft]

theorem plan_byteStart {s : State} (w : State) (hst : s.st = .byteStart) (hbi : s.bi.toNat ≤ 9) :
    plan s = .on :: plan (rowEnd .stByteStart .on (withPulses w (segmentStart .stByteStart s))) := by
  obtain ⟨b, hb⟩ := byteAt_isSome s.txbuf s.bi.toNat (by omega)
  simp [plan, hst, rowEnd, withPulses, segmentStart, messagesLeft, hb, bytesSent_eq_cons _ hb]

theorem plan_sendByte {s : State} (w : State) {b : Byte} (hst : s.st = .sendByte) (hmask : oneBitMask s.bm)
    (hb : byteAt s.txbuf s.bi.toNat = some b) :
    plan s = bitSent s.build b s.bm :: plan (nextBit (withPulses w s)) := by
  have hbi := bi_le_of_byteAt hb
  have hsucc : (s.bi + 1).toNat = s.bi.toNat + 1 := by bv_omega
  have hplan : plan s = bitSent s.build b s.bm :: (bitsSent s.build b (s.bm >>> 1) ++
      (bytesSent s.build s.txbuf (s.bi.toNat + 1) ++ .on :: restSent s.build s.latch s.txbuf (messagesLeft s))) := by
    simp [plan, hst, hb, bitsSent_of_ne_zero _ _ (oneBitMask_ne_zero hmask)]
  rw [hplan, nextBit_eq (s := withPulses w s) hbi hst]
  by_cases hend : s.bm >>> 1 = 0
  · by_cases hlast : s.bi.toNat = 9
    · simp only [plan, withPulses, messagesLeft, hend, hlast, if_true, bitsSent_zero, Nat.reduceAdd,
        bytesSent_past, List.nil_append]
    · simp only [plan, withPulses, messagesLeft, hend, hlast, if_true, if_false, bitsSent_zero, List.nil_append, hsucc]
  · simp only [plan, withPulses, messagesLeft, hend, if_false, hb, Option.elim_some]

theorem plan_messageEnd {s : State} (w : State) (hst : s.st = .messageEnd) :
    plan s = .on :: plan (afterMessage (withPulses w s)) := by
  have hlast : s.latch.repeats.toNat ≤ s.rep.toNat + 1 ↔ messagesLeft s = 0 := by unfold messagesLeft; omega
  simp only [plan, hst, afterMessage, restSent, withPulses, hlast]
  split
  · rfl
  · rfl

theorem plan_gapStart {s : State} (w : State) (hst : s.st = .gapStart) :
    plan s = .off s.build.gapCount.toNat :: plan (afterGapUnit (withPulses w s)) := by
  rw [afterGapUnit_eq (s := withPulses w s) hst]
  by_cases hgr : s.gr = 0
  · simp only [plan, hst, withPulses, messagesLeft, hgr, if_true]
    rfl
  · obtain ⟨g, hg⟩ : ∃ g, s.gr.toNat = g + 1 := Nat.exists_eq_succ_of_ne_zero fun h => hgr (BitVec.eq_of_toNat_eq h)
    have hpred : (s.gr - 1).toNat = g := by bv_omega
    simp only [plan, hst, withPulses, messagesLeft, hgr, if_false, hg, hpred]
    rfl

theorem plan_gapEnd_last {s : State} (w : State) (hst : s.st = .gapEnd)
    (hlast : s.latch.repeats.toNat ≤ s.rep.toNat + 1) :
    plan s = .nothing :: plan (rowEnd .stGapEnd .nothing (withPulses w (segmentStart .stGapEnd s))) := by
  have hleft : messagesLeft s = 0 := by unfold messagesLeft; omega
  simp only [plan, hst, hleft]
  rfl

theorem plan_gapEnd_more {s : State} (w : State) (hst : s.st = .gapEnd)
    (hmore : s.rep.toNat + 1 < s.latch.repeats.toNat) :
    plan s = .off s.build.highCount.toNat ::
      plan (rowEnd .stGapEnd (.off s.build.highCount.toNat) (withPulses w (segmentStart .stGapEnd s))) := by
  have hsucc : (s.rep + 1).toNat = s.rep.toNat + 1 := by bv_omega
  have hleft : messagesLeft s = s.latch.repeats.toNat - (s.rep.toNat + 1 + 1) + 1 := by unfold messagesLeft; omega
  simp only [plan, hst, rowEnd, withPulses, segmentStart]
  rw [hleft, gapEndSent_succ, messagesLeft, hsucc]

/-- A builder step takes the head of the plan, whatever its pulses are. -/
theorem plan_row {s : State} {a : Sent} (hs : Legal s) (hbusy : s.busy = true)
    (ha : rowSends (builderInstr s) s = some a) (w : State) :
    plan s = a :: plan (rowEnd (builderInstr s) a (withPulses w (segmentStart (builderInstr s) s))) := by
  have hidle := st_ne_idle_of_busy hs hbusy
  obtain ⟨_, _, hsend, hbyte, _⟩ := hs
  cases hst : s.st <;> simp only [builderInstr, hbusy, hst, if_true] at ha ⊢
  case idle => exact absurd hst hidle
  case messageStart => cases ha; exact plan_messageStart w hst
  case byteStart => cases ha; exact plan_byteStart w hst (hbyte hst)
  case sendByte =>
    obtain ⟨b, hb, rfl⟩ := Option.map_eq_some_iff.1 ha
    exact plan_sendByte w hst (hsend hst).1 hb
  case messageEnd => cases ha; exact plan_messageEnd w hst
  case gapStart => cases ha; exact plan_gapStart w hst
  case gapEnd =>
    by_cases hlast : s.latch.repeats.toNat ≤ s.rep.toNat + 1
    · rw [rowSends, if_pos hlast] at ha
      cases ha
      exact plan_gapEnd_last w hst hlast
    · rw [rowSends, if_neg hlast] at ha
      cases ha
      exact plan_gapEnd_more w hst (by omega)

end Sys2Proof.Machine

/-! ## The length of a run -/

namespace Sys2Proof.Machine

open Sys2Proof.Claims

/-! ### Runs -/

theorem run_succ {s t : State} (h : step s = .next t) (k : Nat) : core.run (k + 1) s = core.run k t := by
  have hcore : core.step s = .next t := h
  simp only [Host.Core.run, hcore]

/-- A measure that every step with BUSY 1 makes smaller bounds the steps until BUSY is 0; `R` is what the steps keep,
by their number. -/
theorem run_until_idle {R : Nat → State → Prop} {m : State → Nat}
    (hstep : ∀ n s, R n s → s.busy = true →
      0 < m s ∧ ∃ t, step s = .next t ∧ R (n + 1) t ∧ (t.busy = true → m t < m s))
    {n : Nat} {s : State} (hR : R n s) (hbusy : s.busy = true) :
    ∃ k t, k ≤ m s ∧ core.run k s = .next t ∧ t.busy = false ∧ R (n + k) t ∧
      ∀ j, j < k → ∃ u, core.run j s = .next u ∧ u.busy = true := by
  obtain ⟨b, hb⟩ : ∃ b, m s ≤ b := ⟨_, le_rfl⟩
  induction b generalizing n s with
  | zero => exact absurd (hstep n s hR hbusy).1 (by omega)
  | succ b ih =>
    obtain ⟨hpos, t, hst, hRt, hless⟩ := hstep n s hR hbusy
    cases ht : t.busy with
    | false =>
      refine ⟨1, t, hpos, run_succ hst 0, ht, hRt, fun j hj => ?_⟩
      obtain rfl : j = 0 := by omega
      exact ⟨s, rfl, hbusy⟩
    | true =>
      have hm := hless ht
      obtain ⟨k, u, hk, hrun, hu, hRu, hall⟩ := ih hRt ht (by omega)
      refine ⟨k + 1, u, by omega, (run_succ hst k).trans hrun, hu, by rwa [← Nat.add_right_comm, Nat.add_assoc] at hRu,
        fun j hj => ?_⟩
      cases j with
      | zero => exact ⟨s, rfl, hbusy⟩
      | succ j =>
        rw [run_succ hst]
        exact hall j (by omega)

/-! ### The builder's step -/

theorem emit_emits (a : Sent) (s : State) : Emits s (emit a s) := by
  cases a with
  | on => exact segOn_emits _ s
  | off c => exact segOff_emits c s
  | nothing => exact Pulsed.none

theorem Pulsed.eq_withPulses {s t : State} (h : Pulsed s t) : t = withPulses t s := h.frame

/-- The builder's step in a legal state is answered, and ends the build or goes on with the plan. -/
theorem exec_builderInstr_plan {s : State} (hs : Legal s) (hbusy : s.busy = true) :
    0 < (plan s).length ∧
      ∃ t, exec (builderInstr s) s = .next t ∧ (t.busy = true → (plan t).length < (plan s).length) := by
  obtain ⟨a, ha⟩ := rowSends_builderInstr hs hbusy
  refine ⟨by rw [plan_row hs hbusy ha s]; exact Nat.succ_pos _, ?_⟩
  have hemits := emit_emits a (segmentStart (builderInstr s) s)
  rw [exec_row ha]
  cases he : emit a (segmentStart (builderInstr s) s) <;> rw [he] at hemits
  case went u =>
    refine ⟨_, rfl, fun _ => ?_⟩
    rw [plan_row hs hbusy ha u, ← Pulsed.eq_withPulses hemits]
    exact Nat.lt_succ_self _
  case aborted t =>
    obtain ⟨u, _, rfl⟩ : ∃ u, _ ∧ t = capacityAbort u := hemits
    exact ⟨_, rfl, nofun⟩

theorem takeTurn_nil {s : State} (hin : s.inputs = []) : takeTurn s = s := by
  simp [takeTurn, hin]

/-- With no input to come and BUSY 1 the builder has the turn, a held write or not (43_waveform.md R220). -/
theorem step_busy_nil {s : State} (hbusy : s.busy = true) (hin : s.inputs = []) :
    step s = exec (builderInstr s) s := by
  cases hheld : s.heldOp with
  | none => exact step_builder s hheld hin
  | some w => rw [step_heldOp_busy hheld hbusy (by simp [hin]), takeTurn_nil hin]

/-! ### The bits of a byte -/

theorem bitSent_twoPow (p : BuildParams) (b : Byte) {i : Nat} (hi : i < 8) :
    bitSent p b (BitVec.twoPow 8 i) = if b.getLsbD i then .on else .off p.lowCount.toNat := by
  have hne : BitVec.twoPow 8 i ≠ 0 := by
    revert i
    decide
  rw [bitSent, BitVec.and_twoPow]
  cases b.getLsbD i with
  | false => exact if_neg (not_not.2 rfl)
  | true => exact if_pos hne

/-- The bits from the mask `1 << k` down are bits `k` to 0 (43_waveform.md R224). -/
theorem bitsSent_twoPow (p : BuildParams) (b : Byte) {k : Nat} (hk : k < 8) :
    bitsSent p b (BitVec.twoPow 8 k) =
      (List.range (k + 1)).reverse.map fun i => if b.getLsbD i then .on else .off p.lowCount.toNat := by
  have hne : ∀ i < 8, BitVec.twoPow 8 i ≠ 0 := by decide
  have hshift : ∀ i < 7, BitVec.twoPow 8 (i + 1) >>> 1 = BitVec.twoPow 8 i := by decide
  rw [bitsSent_of_ne_zero p b (hne k hk), bitSent_twoPow p b hk, List.range_succ, List.reverse_concat, List.map_cons]
  congr 1
  induction k with
  | zero => exact bitsSent_zero p b
  | succ k ih =>
    rw [hshift k (by omega), bitsSent_of_ne_zero p b (hne k (by omega)), bitSent_twoPow p b (by omega),
      List.range_succ, List.reverse_concat, List.map_cons, ih (by omega)]

theorem bitsSent_first (p : BuildParams) (b : Byte) :
    bitsSent p b 0x80 = (List.range 8).reverse.map fun i => if b.getLsbD i then .on else .off p.lowCount.toNat :=
  bitsSent_twoPow p b (k := 7) (by decide)

theorem oneBitMask_eq_twoPow {b : Byte} (h : oneBitMask b) : ∃ k, k < 8 ∧ b = BitVec.twoPow 8 k := by
  unfold oneBitMask at h
  obtain rfl | rfl | rfl | rfl | rfl | rfl | rfl | rfl := h <;> decide

theorem bitsSent_length_le (p : BuildParams) (b : Byte) {bm : Byte} (h : oneBitMask bm) :
    (bitsSent p b bm).length ≤ 8 := by
  obtain ⟨k, hk, rfl⟩ := oneBitMask_eq_twoPow h
  rw [bitsSent_twoPow p b hk, List.length_map, List.length_reverse, List.length_range]
  exact hk

/-! ### The length of the plan -/

theorem gapSent_length (p : BuildParams) (g : Nat) : (gapSent p g).length = g + 1 := List.length_replicate

theorem byteSent_length (p : BuildParams) (b : Byte) : (byteSent p b).length = 9 := by
  rw [byteSent, bitsSent_first]
  rfl

theorem bytesSent_length (p : BuildParams) (x : Bytes10) (i : Nat) : (bytesSent p x i).length = (10 - i) * 9 := by
  simp only [bytesSent, List.length_flatMap, byteSent_length, List.map_const', List.sum_replicate, List.length_drop]
  rfl

theorem messageSent_length (p : BuildParams) (x : Bytes10) : (messageSent p x).length = 92 := by
  simp [messageSent, bytesSent_length]

/-- From GapEnd on each message to come has its restart, its steps and its gap of at most 256 units
(43_waveform.md R242). -/
theorem gapEndSent_length_le (p : BuildParams) (l : Latch) (x : Bytes10) (n : Nat) :
    (gapEndSent p l x n).length ≤ 1 + 349 * n := by
  have hgap := l.gapMult.isLt
  induction n with
  | zero => exact le_rfl
  | succ n ih =>
    simp only [gapEndSent, List.length_cons, List.length_append, messageSent_length]
    split
    · simp only [List.length_nil]
      omega
    · rw [List.length_append, gapSent_length]
      omega

theorem restSent_length_le (p : BuildParams) (l : Latch) (x : Bytes10) (n : Nat) :
    (restSent p l x n).length ≤ 257 + 349 * n := by
  have hgap := l.gapMult.isLt
  have hend := gapEndSent_length_le p l x n
  unfold restSent
  split
  · exact Nat.zero_le _
  · rw [List.length_append, gapSent_length]
    omega

/-- A legal build in progress has at most 255 messages to go, each of at most 349 steps (43_waveform.md R242). -/
theorem plan_length_le {s : State} (hs : Legal s) (hbusy : s.busy = true) : (plan s).length ≤ 255 * 349 := by
  have hidle := st_ne_idle_of_busy hs hbusy
  have ⟨_, hrep, _⟩ := building_of_legal hs hidle
  have hleft : messagesLeft s ≤ 254 := by unfold messagesLeft; omega
  have hgap := gapEndSent_length_le s.build s.latch s.txbuf (messagesLeft s)
  have hrest := restSent_length_le s.build s.latch s.txbuf (messagesLeft s)
  obtain ⟨_, _, hsend, _⟩ := hs
  have hgr := s.gr.isLt
  cases hst : s.st <;> simp only [plan, hst, List.length_append, List.length_cons, messageSent_length,
    bytesSent_length, gapSent_length]
  case sendByte =>
    obtain ⟨hmask, hbi⟩ := hsend hst
    obtain ⟨b, hb⟩ := byteAt_isSome s.txbuf s.bi.toNat (by omega)
    have hbits := bitsSent_length_le s.build b hmask
    rw [hb, Option.elim_some]
    omega
  case idle => exact Nat.zero_le _
  all_goals omega

/-- The builder's steps write no port state. -/
theorem exec_builderInstr_port {s t : State} (h : exec (builderInstr s) s = .next t) :
    t.inputs = s.inputs ∧ t.heldOp = s.heldOp := by
  rw [(exec_builderEffect (builderInstr_isBuilderRow s) h).builderOnly]
  exact ⟨rfl, rfl⟩

/-- Settles O59: the builder has every turn, each step takes the head of the plan or ends the build, and the plan of a
legal state is short enough. -/
theorem busyEndsWithinTheStepBound : Obligations.BusyEndsWithinTheStepBound := by
  intro s hs hbusy hin
  obtain ⟨k, t, hk, hrun, ht, ⟨_, _, hheld⟩, _⟩ := run_until_idle
    (R := fun _ t => Legal t ∧ t.inputs = [] ∧ t.heldOp = s.heldOp) (m := fun t => (plan t).length)
    (fun n u ⟨hu, huin, huheld⟩ hubusy => by
      obtain ⟨hpos, t, hexec, hless⟩ := exec_builderInstr_plan hu hubusy
      have hst := (step_busy_nil hubusy huin).trans hexec
      obtain ⟨htin, htheld⟩ := exec_builderInstr_port hexec
      exact ⟨hpos, t, hst, ⟨stepKeepsLegal u t hu hst, htin.trans huin, htheld.trans huheld⟩, hless⟩)
    (n := 0) ⟨hs, hin, rfl⟩ hbusy
  exact ⟨k, t, hk.trans (plan_length_le hs hbusy), hrun, ht, hheld⟩

end Sys2Proof.Machine

/-! ## The counts of a plan

The steps, pulses and ticks of a build are sums over its plan. -/

namespace Sys2Proof.Machine

open Sys2Proof.Claims

/-- The sum of `f` over a plan. -/
def weight (f : Sent → Nat) (q : List Sent) : Nat := (q.map f).sum

@[simp] theorem weight_nil (f : Sent → Nat) : weight f [] = 0 := rfl

@[simp] theorem weight_cons (f : Sent → Nat) (a : Sent) (q : List Sent) : weight f (a :: q) = f a + weight f q := rfl

@[simp] theorem weight_append (f : Sent → Nat) (q r : List Sent) : weight f (q ++ r) = weight f q + weight f r := by
  simp [weight]

theorem weight_replicate (f : Sent → Nat) (n : Nat) (a : Sent) : weight f (List.replicate n a) = n * f a := by
  simp [weight]

theorem weight_one (q : List Sent) : weight (fun _ => 1) q = q.length := by
  simp [weight]

/-- The 1 bits among the lowest `k` bits of a byte. -/
def onesBelow (b : Byte) : Nat → Nat
  | 0 => 0
  | k + 1 => (b.getLsbD k).toNat + onesBelow b k

theorem onesBelow_le (b : Byte) (k : Nat) : onesBelow b k ≤ k := by
  induction k with
  | zero => exact le_rfl
  | succ k ih =>
    have hbit := (b.getLsbD k).toNat_le
    rw [onesBelow]
    omega

theorem popcount_eq_onesBelow (b : Byte) : popcount b = onesBelow b 8 := by
  simp only [popcount, onesBelow, ← BitVec.getLsbD_eq_getElem]
  omega

theorem weight_bits (f : Sent → Nat) (low : Nat) (b : Byte) (k : Nat) :
    weight f ((List.range k).reverse.map fun i => if b.getLsbD i then .on else .off low) =
      onesBelow b k * f .on + (k - onesBelow b k) * f (.off low) := by
  induction k with
  | zero => simp [onesBelow]
  | succ k ih =>
    have hle := onesBelow_le b k
    rw [List.range_succ, List.reverse_concat, List.map_cons, weight_cons, ih, onesBelow]
    cases b.getLsbD k with
    | false =>
      rw [Bool.toNat_false, Nat.zero_add, Nat.succ_sub hle, Nat.succ_mul, if_neg Bool.false_ne_true]
      omega
    | true =>
      rw [Bool.toNat_true, Nat.add_comm k 1, Nat.add_sub_add_left, Nat.add_mul, Nat.one_mul, if_pos rfl, Nat.add_assoc]

theorem popcount_le (b : Byte) : popcount b ≤ 8 := popcount_eq_onesBelow b ▸ onesBelow_le b 8

theorem weight_byteSent (f : Sent → Nat) (p : BuildParams) (b : Byte) :
    weight f (byteSent p b) =
      (1 + popcount b) * f .on + (8 - popcount b) * f (.off p.lowCount.toNat) := by
  rw [byteSent, weight_cons, bitsSent_first, weight_bits, ← popcount_eq_onesBelow, Nat.add_mul, Nat.one_mul,
    Nat.add_assoc]

/-- Bytes send an ON segment for each byte and each 1 bit, and an OFF segment for each 0 bit. -/
theorem weight_flatMap_byteSent (f : Sent → Nat) (p : BuildParams) (q : List Byte) :
    (q.map popcount).sum ≤ 8 * q.length ∧
      weight f (q.flatMap (byteSent p)) = (q.length + (q.map popcount).sum) * f .on +
        (8 * q.length - (q.map popcount).sum) * f (.off p.lowCount.toNat) := by
  induction q with
  | nil => simp
  | cons b q ih =>
    obtain ⟨hle, hw⟩ := ih
    have hb := popcount_le b
    rw [List.flatMap_cons, weight_append, hw, weight_byteSent, List.map_cons, List.sum_cons, List.length_cons]
    have hsub : 8 * (q.length + 1) - (popcount b + (q.map popcount).sum) =
        (8 - popcount b) + (8 * q.length - (q.map popcount).sum) := by omega
    refine ⟨by omega, ?_⟩
    rw [hsub]
    ring

theorem popcount10_le (x : Bytes10) : popcount10 x ≤ 80 :=
  (weight_flatMap_byteSent (fun _ => 0) Config.defaultBuild (bytes x)).1

/-- A message sends `12 + P` ON segments and `80 - P` OFF segments (43_waveform.md R240, R241). -/
theorem weight_messageSent (f : Sent → Nat) (p : BuildParams) (x : Bytes10) :
    weight f (messageSent p x) =
      (12 + popcount10 x) * f .on + (80 - popcount10 x) * f (.off p.lowCount.toNat) := by
  have hbytes : weight f (bytesSent p x 0) =
      (10 + popcount10 x) * f .on + (80 - popcount10 x) * f (.off p.lowCount.toNat) :=
    (weight_flatMap_byteSent f p (bytes x)).2
  rw [messageSent, weight_cons, weight_append, hbytes, weight_cons, weight_nil]
  ring

theorem weight_gapSent (f : Sent → Nat) (p : BuildParams) (g : Nat) :
    weight f (gapSent p g) = (g + 1) * f (.off p.gapCount.toNat) :=
  weight_replicate f _ _

/-- After a message: for each message to come a gap, a restart and the message; a gap at the end where TRAILING_GAP
is 1. -/
theorem weight_restSent (f : Sent → Nat) (p : BuildParams) (l : Latch) (x : Bytes10) (n : Nat) :
    weight f (restSent p l x n) =
      n * (weight f (gapSent p l.gapMult.toNat) + f (.off p.highCount.toNat) + weight f (messageSent p x)) +
        if l.trailing then weight f (gapSent p l.gapMult.toNat) + f .nothing else 0 := by
  induction n with
  | zero => cases htrail : l.trailing <;> simp [restSent, gapEndSent, htrail]
  | succ n ih =>
    rw [restSent, if_neg (by omega), gapEndSent_succ, weight_append, weight_cons, weight_append, ih]
    ring

/-- A plan from its first MessageStart on with `n + 1` messages. -/
theorem weight_message_restSent (f : Sent → Nat) (p : BuildParams) (l : Latch) (x : Bytes10) (n : Nat) :
    weight f (messageSent p x ++ restSent p l x n) =
      (n + 1) * weight f (messageSent p x) +
        n * (weight f (gapSent p l.gapMult.toNat) + f (.off p.highCount.toNat)) +
        if l.trailing then weight f (gapSent p l.gapMult.toNat) + f .nothing else 0 := by
  rw [weight_append, weight_restSent]
  ring

/-! ### The block right after BUILD -/

/-- The state in which BUILD starts the builder (43_waveform.md R210, R213). -/
def started (s : State) : State := startBuild (clearWave s)

theorem exec_build_started {s : State} (ign : BitVec 24) (h : PassesBuildChecks s) :
    exec (.build ign) s = .next (started s) := by
  obtain ⟨hbusy, hvalid, hrep, hper, _⟩ := h
  rw [exec_build_idle ign hbusy, buildWave_eq, if_neg (by simp [hvalid]), if_neg hrep, if_neg hper]
  rfl

theorem plan_started (s : State) :
    plan (started s) = messageSent s.build (transmitted s) ++
      restSent s.build (started s).latch (transmitted s) (s.cfgRepeats.toNat - 1) := rfl

/-- The plan of a BUILD by its weights (43_waveform.md R240 to R242). -/
theorem weight_plan_started (f : Sent → Nat) {s : State} {n : Nat} (hn : s.cfgRepeats.toNat = n + 1) :
    weight f (plan (started s)) =
      (n + 1) * ((12 + onesSent s) * f .on + (80 - onesSent s) * f (.off s.build.lowCount.toNat)) +
        n * ((s.cfgGapMult.toNat + 1) * f (.off s.build.gapCount.toNat) + f (.off s.build.highCount.toNat)) +
        if s.cfgFlags[2] then (s.cfgGapMult.toNat + 1) * f (.off s.build.gapCount.toNat) + f .nothing else 0 := by
  rw [plan_started, weight_message_restSent, weight_messageSent, weight_gapSent, hn]
  rfl

theorem repeats_eq_succ {s : State} (h : s.cfgRepeats ≠ 0) : ∃ n, s.cfgRepeats.toNat = n + 1 :=
  Nat.exists_eq_succ_of_ne_zero fun h0 => h (BitVec.eq_of_toNat_eq h0)

/-- The plan has one entry for each builder step of 43_waveform.md R242. -/
theorem plan_started_length {s : State} (h : s.cfgRepeats ≠ 0) : (plan (started s)).length = specSteps s := by
  obtain ⟨n, hn⟩ := repeats_eq_succ h
  have hones : onesSent s ≤ 80 := popcount10_le _
  have hbits : 12 + onesSent s + (80 - onesSent s) = 92 := by omega
  rw [← weight_one, weight_plan_started _ hn, specSteps, hn]
  simp only [Nat.mul_one, hbits, Nat.add_sub_cancel]
  split <;> ring

/-- The pulses that a step appends (43_waveform.md R231, R232). -/
def sentPulses : Sent → Nat
  | .on => 2
  | _ => 0

theorem weight_sentPulses_started {s : State} (h : s.cfgRepeats ≠ 0) :
    weight sentPulses (plan (started s)) = specPulses s := by
  obtain ⟨n, hn⟩ := repeats_eq_succ h
  rw [weight_plan_started _ hn, specPulses, hn]
  simp only [sentPulses, Nat.mul_zero, Nat.add_zero, ite_self]
  ring

/-! ### The ticks of a plan -/

/-- The ticks of what a step sends (43_waveform.md R231, R232). -/
def sentTicks (p : BuildParams) : Sent → List Level
  | .on => List.replicate (p.highCount.toNat - p.trailCount.toNat) .on ++ List.replicate p.trailCount.toNat .off
  | .off c => List.replicate c .off
  | .nothing => []

/-- The ticks of a plan. -/
def planTicks (p : BuildParams) (q : List Sent) : List Level := q.flatMap (sentTicks p)

@[simp] theorem planTicks_cons (p : BuildParams) (a : Sent) (q : List Sent) :
    planTicks p (a :: q) = sentTicks p a ++ planTicks p q := rfl

@[simp] theorem planTicks_append (p : BuildParams) (q r : List Sent) :
    planTicks p (q ++ r) = planTicks p q ++ planTicks p r := List.flatMap_append

theorem planTicks_length (p : BuildParams) (q : List Sent) :
    (planTicks p q).length = weight (fun a => (sentTicks p a).length) q := List.length_flatMap

theorem planTicks_started_length {s : State} (h : s.cfgRepeats ≠ 0) (hwf : s.build.wf = true) :
    (planTicks s.build (plan (started s))).length = specTicks s := by
  obtain ⟨n, hn⟩ := repeats_eq_succ h
  obtain ⟨_, htrail⟩ := trailCount_lt_of_wf hwf
  rw [planTicks_length, weight_plan_started _ hn, specTicks, hn]
  simp only [sentTicks, List.length_append, List.length_replicate, List.length_nil, Nat.sub_add_cancel htrail.le,
    Nat.add_sub_cancel]
  split <;> ring

theorem reverse_range_eight : (List.range 8).reverse = (List.range 8).map fun j => 7 - j := rfl

theorem planTicks_byteSent (s : State) (b : Byte) : planTicks s.build (byteSent s.build b) = byteTicks s b := by
  rw [byteSent, planTicks_cons, bitsSent_first, planTicks, reverse_range_eight, List.flatMap_map, List.flatMap_map]
  simp only [apply_ite (sentTicks s.build)]
  rfl

theorem planTicks_bytesSent (s : State) (x : Bytes10) :
    planTicks s.build (bytesSent s.build x 0) = (bytes x).flatMap (byteTicks s) := by
  rw [planTicks, bytesSent, List.flatMap_assoc, List.drop_zero]
  exact List.flatMap_congr fun b _ => planTicks_byteSent s b

theorem planTicks_messageSent (s : State) :
    planTicks s.build (messageSent s.build (transmitted s)) = messageTicks s := by
  rw [messageSent, planTicks_cons, planTicks_append, planTicks_bytesSent, planTicks_cons, ← List.append_assoc,
    messageTicks]
  congr 1
  exact List.append_nil _

theorem planTicks_gapSent (s : State) : planTicks s.build (gapSent s.build s.cfgGapMult.toNat) = gapTicks s := by
  rw [planTicks, gapSent, List.flatMap_replicate, sentTicks, List.flatten_replicate_replicate, gapTicks, Nat.mul_comm]

/-- The messages of a build, the last of which has no restart after it (43_waveform.md R225, R248). -/
theorem planTicks_message_restSent (s : State) (n : Nat) :
    planTicks s.build (messageSent s.build (transmitted s) ++
        restSent s.build (started s).latch (transmitted s) n) =
      (List.range (n + 1)).flatMap fun r => messageTicks s ++
        if r + 1 < n + 1 then gapTicks s ++ List.replicate s.build.highCount.toNat .off
        else if s.cfgFlags[2] then gapTicks s else [] := by
  have hgap : planTicks s.build (gapSent s.build (started s).latch.gapMult.toNat) = gapTicks s := planTicks_gapSent s
  have htrail : (started s).latch.trailing = s.cfgFlags[2] := rfl
  have hlast : planTicks s.build (restSent s.build (started s).latch (transmitted s) 0) =
      if s.cfgFlags[2] then gapTicks s else [] := by
    rw [restSent, gapEndSent, htrail]
    cases s.cfgFlags[2] with
    | false => rfl
    | true =>
      rw [if_neg (by simp), planTicks_append, hgap, if_pos rfl]
      exact List.append_nil _
  induction n with
  | zero =>
    rw [planTicks_append, planTicks_messageSent, hlast]
    exact (List.append_nil _).symm
  | succ n ih =>
    rw [List.range_succ_eq_map, List.flatMap_cons, List.flatMap_map, restSent, if_neg (by omega), gapEndSent_succ,
      planTicks_append, planTicks_messageSent, planTicks_append, hgap, planTicks_cons, ih,
      if_pos (show 0 + 1 < n + 1 + 1 by omega)]
    simp only [sentTicks, List.append_assoc, Nat.succ_eq_add_one, Nat.add_lt_add_iff_right]

theorem planTicks_started {s : State} (h : s.cfgRepeats ≠ 0) :
    planTicks s.build (plan (started s)) = tickSequence s := by
  obtain ⟨n, hn⟩ := repeats_eq_succ h
  rw [plan_started, hn, Nat.add_sub_cancel, planTicks_message_restSent, tickSequence, hn]

end Sys2Proof.Machine

/-! ## The progress of a build -/

namespace Sys2Proof.Machine

open Sys2Proof.Claims

/-! ### The pulse list as runs of ticks -/

/-- The pulses, in order. -/
def pulseList (s : State) : List Pulse := (List.range s.pulseCount.toNat).map (pmemRead s)

/-- The pulse of a run of ticks at one level (43_waveform.md R233, R234). -/
def runPulse (l : Latch) (r : Level × Nat) : Pulse := ⟨(masks l r.1).1, (masks l r.1).2, duration l r.2⟩

/-- Runs spelled out tick by tick. -/
def runTicks (rs : List (Level × Nat)) : List Level := rs.flatMap fun r => List.replicate r.2 r.1

/-- `rs` are the pulses of `s`, and they are the run-length encoding of the ticks of `sent` (43_waveform.md R245). -/
structure SpelledBy (sent : List Sent) (s : State) (rs : List (Level × Nat)) : Prop where
  pulses : pulseList s = rs.map (runPulse s.latch)
  ticks : runTicks rs = planTicks s.build sent
  count : rs.length = weight sentPulses sent
  pos : ∀ r ∈ rs, 0 < r.2

theorem SamePulses.pulseList {s t : State} (h : SamePulses s t) : pulseList t = pulseList s := by
  rw [Machine.pulseList, Machine.pulseList, h.pmemRead, h.pulseCount]

theorem SpelledBy.congr {sent : List Sent} {s t : State} {rs : List (Level × Nat)} (h : SpelledBy sent s rs)
    (hp : SamePulses s t) (hlatch : t.latch = s.latch) (hbuild : t.build = s.build) : SpelledBy sent t rs := by
  obtain ⟨hpulses, hticks, hcount, hpos⟩ := h
  exact ⟨by rw [hp.pulseList, hpulses, hlatch], by rw [hticks, hbuild], hcount, hpos⟩

theorem SpelledBy.pulseCount {sent : List Sent} {s : State} {rs : List (Level × Nat)} (h : SpelledBy sent s rs) :
    s.pulseCount.toNat = weight sentPulses sent := by
  have hlen := congrArg List.length h.pulses
  rwa [pulseList, List.length_map, List.length_range, List.length_map, h.count] at hlen

theorem pulseList_emitted_on {s : State} (hfits : Fits .on s) :
    pulseList (emitted .on s) = pulseList s ++
      [runPulse s.latch (.on, s.build.highCount.toNat - s.build.trailCount.toNat),
        runPulse s.latch (.off, s.build.trailCount.toNat)] := by
  have hold : ∀ i ∈ List.range s.pulseCount.toNat, pmemRead (emitted .on s) i = pmemRead s i := fun i hi =>
    pmemRead_emitted_on_other hfits (by have := List.mem_range.1 hi; omega) (by have := List.mem_range.1 hi; omega)
  rw [pulseList, emitted_on_pulseCount hfits, List.range_succ, List.range_succ, List.map_append, List.map_append,
    List.map_congr_left hold, List.append_assoc]
  simp only [List.map_cons, List.map_nil, pmemRead_emitted_on_first hfits, pmemRead_emitted_on_second hfits]
  rfl

/-- A pulse list with its last pulse apart. -/
theorem pulseList_eq_concat {s : State} (hpos : 0 < s.pulseCount.toNat) :
    pulseList s = (List.range (s.pulseCount.toNat - 1)).map (pmemRead s) ++ [pmemRead s (s.pulseCount.toNat - 1)] := by
  have hcount : List.range s.pulseCount.toNat = List.range (s.pulseCount.toNat - 1 + 1) := by
    rw [Nat.sub_add_cancel hpos]
  rw [pulseList, hcount, List.range_succ, List.map_append]
  rfl

theorem pulseList_mergePulse (d : BitVec 64) {s : State} (hpos : 0 < s.pulseCount.toNat) :
    pulseList (mergePulse d s) = (List.range (s.pulseCount.toNat - 1)).map (pmemRead s) ++
      [{ pmemRead s (s.pulseCount.toNat - 1) with dur := (pmemRead s (s.pulseCount.toNat - 1)).dur + d }] := by
  have hold : ∀ i ∈ List.range (s.pulseCount.toNat - 1), pmemRead (mergePulse d s) i = pmemRead s i := fun i hi =>
    pmemRead_mergePulse_other d s (List.mem_range.1 hi).ne
  rw [pulseList_eq_concat (s := mergePulse d s) hpos, mergePulse_pulseCount, List.map_congr_left hold,
    pmemRead_mergePulse_last]

theorem runTicks_append (rs qs : List (Level × Nat)) : runTicks (rs ++ qs) = runTicks rs ++ runTicks qs :=
  List.flatMap_append

/-- An ON segment adds a run of each level (43_waveform.md R231). -/
theorem SpelledBy.on {sent : List Sent} {s : State} {rs : List (Level × Nat)} (h : SpelledBy sent s rs)
    (hwf : s.build.wf = true) (hfits : Fits .on s) :
    SpelledBy (sent ++ [.on]) (emitted .on s)
      (rs ++ [(.on, s.build.highCount.toNat - s.build.trailCount.toNat), (.off, s.build.trailCount.toNat)]) where
  pulses := by
    rw [pulseList_emitted_on hfits, h.pulses, List.map_append]
    rfl
  ticks := by
    rw [runTicks_append, planTicks_append, h.ticks]
    simp [runTicks, planTicks, sentTicks, emitted]
  count := by
    rw [List.length_append, weight_append, h.count]
    rfl
  pos := fun r hr => by
    obtain ⟨htrail, hlt⟩ := trailCount_lt_of_wf hwf
    obtain hr | hr := List.mem_append.1 hr
    · exact h.pos r hr
    · obtain rfl | rfl : r = _ ∨ r = _ := by simpa using hr
      · exact Nat.sub_pos_of_lt hlt
      · exact htrail

/-- The last run of a pulse list whose last pulse is OFF. -/
theorem SpelledBy.last_off {sent : List Sent} {s : State} {rs : List (Level × Nat)} (h : SpelledBy sent s rs)
    (hoff : LastPulseOff s) :
    ∃ qs n, rs = qs ++ [(.off, n)] ∧
      qs.map (runPulse s.latch) = (List.range (s.pulseCount.toNat - 1)).map (pmemRead s) ∧
      pmemRead s (s.pulseCount.toNat - 1) = runPulse s.latch (.off, n) := by
  obtain ⟨hpos, hmasks⟩ := hoff
  obtain ⟨qs, ls, rfl, hqs, hls⟩ := List.map_eq_append_iff.1 (h.pulses.symm.trans (pulseList_eq_concat hpos))
  obtain ⟨⟨lvl, n⟩, rfl, hlast⟩ := List.map_eq_singleton_iff.1 hls
  rw [← hlast] at hmasks
  cases lvl with
  | on => exact absurd hmasks (masks_on_ne_off s.latch)
  | off => exact ⟨qs, n, rfl, hqs, hlast.symm⟩

/-- An OFF segment makes the last run longer (43_waveform.md R232). -/
theorem SpelledBy.off {sent : List Sent} {s : State} {rs : List (Level × Nat)} (h : SpelledBy sent s rs)
    (hoff : LastPulseOff s) (c : Nat) : ∃ rs', SpelledBy (sent ++ [.off c]) (emitted (.off c) s) rs' := by
  obtain ⟨qs, n, rfl, hqs, hlast⟩ := h.last_off hoff
  have hn := h.pos (.off, n) (by simp)
  refine ⟨qs ++ [(.off, n + c)], ?_, ?_, ?_, fun r hr => ?_⟩
  · rw [emitted, pulseList_mergePulse _ hoff.1, ← hqs, hlast, List.map_append]
    simp [runPulse, duration_add]
  · have hticks := h.ticks
    rw [planTicks_append, emitted, mergePulse_build, ← hticks, runTicks_append, runTicks_append, List.append_assoc]
    simp [runTicks, planTicks, sentTicks]
  · have hcount := h.count
    rw [weight_append, ← hcount]
    simp [sentPulses]
  · obtain hr | hr := List.mem_append.1 hr
    · exact h.pos r (List.mem_append_left _ hr)
    · obtain rfl : r = (.off, n + c) := by simpa using hr
      exact Nat.lt_add_right c hn

theorem SpelledBy.emitted {sent : List Sent} {s : State} {rs : List (Level × Nat)} {a : Sent}
    (h : SpelledBy sent s rs) (hwf : s.build.wf = true) (hready : ReadyFor a s) (hfits : Fits a s) :
    ∃ rs', SpelledBy (sent ++ [a]) (emitted a s) rs' := by
  cases a with
  | on => exact ⟨_, h.on hwf hfits⟩
  | off c => exact h.off hready c
  | nothing =>
    obtain ⟨hpulses, hticks, hcount, hpos⟩ := h
    refine ⟨rs, hpulses, ?_, ?_, hpos⟩
    · rw [planTicks_append, Machine.emitted, hticks]
      exact (List.append_nil _).symm
    · rw [weight_append, hcount]
      rfl

/-! ### The progress of a build -/

/-- A build that began in `t₀` has sent `sent` and is in the state `t`. -/
structure Progress (t₀ t : State) (sent : List Sent) : Prop where
  legal : Legal t
  wave : WaveformLegal t
  latch : t.latch = t₀.latch
  build : t.build = t₀.build
  plan : plan t₀ = sent ++ plan t
  spelled : ∃ rs, SpelledBy sent t rs
  finished : t.busy = false → t.waveValid = true ∧ t.rep = t.latch.repeats

theorem plan_congr {s t : State} (h : BuilderFrame s t) : plan t = plan s := by
  simp only [plan, messagesLeft, h.st, h.bi, h.bm, h.rep, h.gr, h.txbuf, h.latch, h.build]

/-- What the host does is no progress. -/
theorem Progress.congr {t₀ s t : State} {sent : List Sent} (h : Progress t₀ s sent) (hf : BuilderFrame s t) :
    Progress t₀ t sent where
  legal := legal_congr hf h.legal
  wave := hf.waveformLegal h.wave
  latch := hf.latch.trans h.latch
  build := hf.build.trans h.build
  plan := by rw [plan_congr hf, h.plan]
  spelled := by
    obtain ⟨rs, hrs⟩ := h.spelled
    exact ⟨rs, hrs.congr hf.samePulses hf.latch hf.build⟩
  finished := by
    rw [hf.busy, hf.waveValid, hf.rep, hf.latch]
    exact h.finished

/-- The last message is the one whose repeat count becomes N (43_waveform.md R225, R227). -/
theorem rep_succ_eq_repeats {s : State} (hrep : s.rep.toNat < s.latch.repeats.toNat)
    (hlast : s.latch.repeats.toNat ≤ s.rep.toNat + 1) : s.rep + 1 = s.latch.repeats := by
  bv_omega

theorem afterMessage_finished {s : State} (hbusy : s.busy = true) (hrep : s.rep.toNat < s.latch.repeats.toNat)
    (hidle : (afterMessage s).busy = false) :
    (afterMessage s).waveValid = true ∧ (afterMessage s).rep = (afterMessage s).latch.repeats := by
  by_cases hlast : s.latch.trailing = false ∧ s.latch.repeats.toNat ≤ s.rep.toNat + 1
  · rw [afterMessage, if_pos hlast]
    exact ⟨rfl, rep_succ_eq_repeats hrep hlast.2⟩
  · rw [afterMessage, if_neg hlast] at hidle
    exact absurd (hidle.symm.trans hbusy) Bool.false_ne_true

theorem nextBit_busy (s : State) : (nextBit s).busy = s.busy := by
  simp only [nextBit]
  split <;> rfl

theorem afterGapUnit_busy (s : State) : (afterGapUnit s).busy = s.busy := by
  unfold afterGapUnit
  split <;> rfl

/-- The only ends of a row that clear BUSY are FINISH in MessageEnd and in GapEnd, with REP then N (43_waveform.md
R225, R227, R228). -/
theorem rowEnd_finished {s : State} {a : Sent} (hs : Legal s) (hbusy : s.busy = true)
    (ha : rowSends (builderInstr s) s = some a) (w : State) {t : State}
    (ht : t = rowEnd (builderInstr s) a (withPulses w (segmentStart (builderInstr s) s))) (hidle : t.busy = false) :
    t.waveValid = true ∧ t.rep = t.latch.repeats := by
  subst ht
  have hst := st_ne_idle_of_busy hs hbusy
  have ⟨_, hrep, _⟩ := building_of_legal hs hst
  have hbusy' : ¬ s.busy = false := by simp [hbusy]
  cases hrow : s.st <;> simp only [builderInstr, hbusy, hrow, if_true] at ha hidle ⊢
  case idle => exact absurd hrow hst
  case messageStart => exact absurd hidle hbusy'
  case byteStart => exact absurd hidle hbusy'
  case sendByte => exact absurd ((nextBit_busy _).symm.trans hidle) hbusy'
  case messageEnd => exact afterMessage_finished hbusy hrep hidle
  case gapStart => exact absurd ((afterGapUnit_busy _).symm.trans hidle) hbusy'
  case gapEnd =>
    by_cases hlast : s.latch.repeats.toNat ≤ s.rep.toNat + 1
    · rw [rowSends, if_pos hlast] at ha
      cases ha
      exact ⟨rfl, rep_succ_eq_repeats hrep hlast⟩
    · rw [rowSends, if_neg hlast] at ha
      cases ha
      exact absurd hidle hbusy'

/-- The capacity abort of the build that began in `t₀` (43_waveform.md R229, R246). -/
structure Aborted (t₀ t : State) : Prop where
  busy : t.busy = false
  st : t.st = .idle
  waveValid : t.waveValid = false
  pulseCount : t.pulseCount = 0
  total : t.total = 0
  lastErr : t.lastErr = .capacity
  sticky : t.sticky = t₀.sticky ||| stickyBit .capacity
  errInfo : ∃ c, 1 ≤ c ∧ c ≤ 4 ∧ t.errInfo = BitVec.ofNat 32 (t₀.build.maxPulses.toNat + 0x1000000 * c)
  beyond : t₀.build.maxPulses.toNat < weight sentPulses (plan t₀)

/-- The error record is the same. -/
structure SameErrors (s t : State) : Prop where
  lastErr : t.lastErr = s.lastErr
  errInfo : t.errInfo = s.errInfo
  sticky : t.sticky = s.sticky

theorem SameErrors.trans {s t u : State} (h : SameErrors s t) (h' : SameErrors t u) : SameErrors s u :=
  ⟨h'.lastErr.trans h.lastErr, h'.errInfo.trans h.errInfo, h'.sticky.trans h.sticky⟩

theorem ControlOnly.sameErrors {s t : State} (h : ControlOnly s t) : SameErrors s t := by
  rw [h]
  constructor <;> rfl

theorem segmentStart_st (i : Instr) (s : State) : (segmentStart i s).st = s.st := by
  unfold segmentStart
  split <;> rfl

theorem emitted_latch (a : Sent) (s : State) : (emitted a s).latch = s.latch := by
  rw [emitted_eq_withPulses]
  rfl

theorem emitted_build (a : Sent) (s : State) : (emitted a s).build = s.build := by
  rw [emitted_eq_withPulses]
  rfl

theorem emitted_sameErrors (a : Sent) (s : State) : SameErrors s (emitted a s) := by
  cases a <;> constructor <;> rfl

/-- A row that is not aborted records no error (60_exceptions.md R264). -/
theorem row_sameErrors (i : Instr) (a : Sent) (s : State) :
    SameErrors s (rowEnd i a (emitted a (segmentStart i s))) :=
  (segmentStart_controlOnly i s).sameErrors.trans
    ((emitted_sameErrors a _).trans (rowEnd_controlOnly i a _).sameErrors)

theorem BuilderOnly.latch {s t : State} (h : BuilderOnly s t) : t.latch = s.latch := by rw [h]

theorem BuilderOnly.build {s t : State} (h : BuilderOnly s t) : t.build = s.build := by rw [h]

/-- A row whose segment fits makes progress. -/
theorem Progress.row {t₀ s : State} {sent : List Sent} {a : Sent} (h : Progress t₀ s sent)
    (hwf : t₀.build.wf = true) (hbusy : s.busy = true) (ha : rowSends (builderInstr s) s = some a)
    (hready : ReadyFor a s) (hfits : Fits a s) :
    Progress t₀ (rowEnd (builderInstr s) a (emitted a (segmentStart (builderInstr s) s))) (sent ++ [a]) := by
  have heffect := exec_builderEffect (builderInstr_isBuilderRow s) (exec_row_fits ha hready hfits)
  have hlatch := heffect.builderOnly.latch
  have hbuild := heffect.builderOnly.build
  have hform := emitted_eq_withPulses a (segmentStart (builderInstr s) s)
  have hplan := plan_row h.legal hbusy ha (emitted a (segmentStart (builderInstr s) s))
  rw [← hform] at hplan
  obtain ⟨rs, hrs⟩ := h.spelled
  obtain ⟨rs', hrs'⟩ := hrs.emitted (h.build ▸ hwf) hready hfits
  exact {
    legal := heffect.legal h.legal (rowState_builderInstr h.legal).symm
    wave := row_waveformLegal h.legal h.wave hbusy ha hready hfits
    latch := hlatch.trans h.latch
    build := hbuild.trans h.build
    plan := by rw [h.plan, hplan, List.append_assoc]; rfl
    spelled := ⟨rs', hrs'.congr (row_samePulses _ a s) (hlatch.trans (emitted_latch a s).symm)
      (hbuild.trans (emitted_build a s).symm)⟩
    finished := rowEnd_finished h.legal hbusy ha _ (by rw [← hform]) }

/-- The state code of a row that sends an ON segment (30_encoding.md R89). -/
theorem stateCode_of_sends_on {s : State} (hs : Legal s) (hbusy : s.busy = true)
    (ha : rowSends (builderInstr s) s = some .on) : 1 ≤ (stateCode s.st).toNat ∧ (stateCode s.st).toNat ≤ 4 := by
  have hst := st_ne_idle_of_busy hs hbusy
  cases hrow : s.st <;> simp only [builderInstr, hbusy, hrow, if_true] at ha
  case idle => exact absurd hrow hst
  case gapStart => cases ha
  case gapEnd =>
    rw [rowSends] at ha
    split at ha <;> cases ha
  all_goals decide

theorem capacityAbort_errInfo (s : State) :
    (capacityAbort s).errInfo =
      errWord (s.build.maxPulses.extractLsb' 0 8) (s.build.maxPulses.extractLsb' 8 8) 0 s.st := rfl

/-- A row whose segment does not fit aborts a build that is beyond the capacity. -/
theorem Progress.aborted {t₀ s : State} {sent : List Sent} {a : Sent} (h : Progress t₀ s sent)
    (hsticky : s.sticky = t₀.sticky) (hbusy : s.busy = true) (ha : rowSends (builderInstr s) s = some a)
    (hfull : ¬ Fits a s) : Aborted t₀ (capacityAbort (segmentStart (builderInstr s) s)) := by
  obtain rfl : a = .on := by
    cases a with
    | on => rfl
    | off | nothing => exact absurd trivial hfull
  have hstart := segmentStart_controlOnly (builderInstr s) s
  obtain ⟨rs, hrs⟩ := h.spelled
  refine ⟨rfl, rfl, rfl, rfl, rfl, rfl, ?_, ⟨_, (stateCode_of_sends_on h.legal hbusy ha).1,
    (stateCode_of_sends_on h.legal hbusy ha).2, ?_⟩, ?_⟩
  · rw [capacityAbort_sticky, hstart.sameErrors.sticky, hsticky]
  · rw [capacityAbort_errInfo, errWord_capacity, segmentStart_build, segmentStart_st, h.build]
  · rw [h.plan, plan_row h.legal hbusy ha s, weight_append, weight_cons, ← hrs.pulseCount, ← h.build]
    simp only [Fits] at hfull
    simp only [sentPulses]
    omega

/-- The builder's step of a build: progress, or the abort. -/
theorem Progress.exec {t₀ s : State} {sent : List Sent} (h : Progress t₀ s sent) (hwf : t₀.build.wf = true)
    (hbusy : s.busy = true) :
    ∃ t, exec (builderInstr s) s = .next t ∧
      ((∃ a, Progress t₀ t (sent ++ [a]) ∧ SameErrors s t) ∨
        (t.busy = false ∧ t.waveValid = false ∧ (s.sticky = t₀.sticky → Aborted t₀ t))) := by
  obtain ⟨a, ha, hready, ⟨hfits, e⟩ | ⟨hfull, e⟩⟩ := exec_builderInstr_cases h.legal h.wave hbusy
  · exact ⟨_, e, .inl ⟨a, h.row hwf hbusy ha hready hfits, row_sameErrors _ a s⟩⟩
  · exact ⟨_, e, .inr ⟨rfl, rfl, fun hsticky => h.aborted hsticky hbusy ha hfull⟩⟩

/-! ### The start and the end -/

theorem started_legal {s : State} (h : s.cfgRepeats ≠ 0) : Legal (started s) := by
  refine legal_of_busy (by simp [started]) rfl (Nat.zero_le _) (by simp [started]) (by simp [started])
    (Nat.zero_le _) ?_ rfl
  exact Nat.pos_of_ne_zero fun h0 => h (BitVec.eq_of_toNat_eq h0)

theorem started_progress {s : State} (h : s.cfgRepeats ≠ 0) : Progress (started s) (started s) [] where
  legal := started_legal h
  wave := (waveformLegal_iff _).2 ⟨pulsesLegal_of_count_zero rfl rfl, fun _ hst => absurd rfl hst⟩
  latch := rfl
  build := rfl
  plan := rfl
  spelled := ⟨[], rfl, rfl, rfl, nofun⟩
  finished := nofun

theorem plan_of_idle {s : State} (hs : Legal s) (h : s.busy = false) : plan s = [] := by
  obtain ⟨hidle, _⟩ := hs
  simp only [plan, hidle.2 h]

/-- A build that has ended without an abort has sent its whole plan. -/
theorem Progress.sent_eq {t₀ t : State} {sent : List Sent} (h : Progress t₀ t sent) (hidle : t.busy = false) :
    sent = Machine.plan t₀ := by
  rw [h.plan, plan_of_idle h.legal hidle, List.append_nil]

end Sys2Proof.Machine

/-! ## Whole builds -/

namespace Sys2Proof.Machine

open Sys2Proof.Claims

/-! ### A step with a build in progress -/

/-- With BUSY 1 an operation word is held (20_memory.md R64, 40_buffer_ops.md R120). -/
theorem exec_busy_of_encode_opWord {i : Instr} {w : Word} {s : State} (h : encode i = .opWord w)
    (hbusy : s.busy = true) : exec i s = .next { s with heldOp := some w } := by
  cases i <;> cases h <;>
    simp only [exec, execNop, execPushb, execLoadbuf, execEncode, execDecode, execBuild, execIllegal06to07,
      execIllegal08to0F, execIllegal10to1F, execIllegal20to3F, execIllegal40to7F, execIllegal80toFF,
      issue_busy _ _ _ hbusy]

theorem exec_decodeOp_busy (w : Word) {s : State} (hbusy : s.busy = true) :
    exec (decodeOp w) s = .next { s with heldOp := some w } :=
  exec_busy_of_encode_opWord (decodeOp_hasCode w).2 hbusy

/-- From `s` to `t` an input was taken that the builder does not see: a host access, or an OP write that is held. -/
structure HostStep (s t : State) : Prop where
  frame : BuilderFrame s t
  errors : SameErrors s t
  inputs : ∃ x, s.inputs = x :: t.inputs

/-- The builder has the turn in `s`, with the inputs in `rest` to come. -/
def BuilderTurn (s : State) (rest : List Input) : Prop :=
  rest <:+ s.inputs ∧ step s = exec (builderInstr s) { s with inputs := rest }

theorem takeTurn_suffix (s : State) : ∃ rest, rest <:+ s.inputs ∧ takeTurn s = { s with inputs := rest } := by
  unfold takeTurn
  split
  · next rest hin => exact ⟨rest, hin ▸ List.suffix_cons _ rest, rfl⟩
  · exact ⟨s.inputs, List.suffix_rfl, rfl⟩

theorem step_read {s : State} {idx : BitVec 8} {rest : List Input} (hheld : s.heldOp = none)
    (hin : s.inputs = .read idx :: rest) : step s = .next (hostRead idx { s with inputs := rest }) := by
  simp [step, fetch, fetchInput, hheld, hin]

theorem step_write {s : State} {idx : BitVec 8} {v : Word} {rest : List Input} (hheld : s.heldOp = none)
    (hin : s.inputs = .write idx v :: rest) (hop : idx ≠ regIndex .op) :
    step s = .next (hostWrite idx v { s with inputs := rest }) := by
  simp [step, fetch, fetchInput, hheld, hin, hop]

theorem hostRead_sameErrors (idx : BitVec 8) (s : State) : SameErrors s (hostRead idx s) := ⟨rfl, rfl, rfl⟩

theorem hostWrite_sameErrors (idx : BitVec 8) (v : Word) (s : State) : SameErrors s (hostWrite idx v s) := by
  rw [hostWrite_frame]
  exact ⟨rfl, rfl, rfl⟩

theorem hostWrite_inputs (idx : BitVec 8) (v : Word) (s : State) : (hostWrite idx v s).inputs = s.inputs := by
  rw [hostWrite_frame]

theorem BuilderFrame.trans {s t u : State} (h : BuilderFrame s t) (h' : BuilderFrame t u) : BuilderFrame s u := by
  constructor
  case pmem => exact h'.pmem.trans h.pmem
  case pmemEpoch => exact h'.pmemEpoch.trans h.pmemEpoch
  case pulseCount => exact h'.pulseCount.trans h.pulseCount
  case total => exact h'.total.trans h.total
  case waveValid => exact h'.waveValid.trans h.waveValid
  case busy => exact h'.busy.trans h.busy
  case st => exact h'.st.trans h.st
  case bi => exact h'.bi.trans h.bi
  case bm => exact h'.bm.trans h.bm
  case rep => exact h'.rep.trans h.rep
  case gr => exact h'.gr.trans h.gr
  case txbuf => exact h'.txbuf.trans h.txbuf
  case latch => exact h'.latch.trans h.latch
  case build => exact h'.build.trans h.build

/-- With BUSY 1 a step takes an input that the builder does not see, or is the builder's, unless it takes a reset
(20_memory.md R64, R68; 43_waveform.md R220). -/
theorem step_busy_cases {s : State} (hbusy : s.busy = true) (hreset : ∀ rest, s.inputs ≠ .reset :: rest) :
    (∃ t, step s = .next t ∧ HostStep s t) ∨ ∃ rest, BuilderTurn s rest := by
  cases hheld : s.heldOp with
  | some w =>
    obtain ⟨rest, hsuffix, hturn⟩ := takeTurn_suffix s
    exact .inr ⟨rest, hsuffix, by rw [step_heldOp_busy hheld hbusy hreset, hturn]⟩
  | none =>
    cases hin : s.inputs with
    | nil => exact .inr ⟨[], List.nil_suffix, by rw [step_busy_nil hbusy hin, ← hin]⟩
    | cons x rest =>
      have hport := port_builderFrame s s.heldOp rest
      have herr : SameErrors s { s with inputs := rest } := ⟨rfl, rfl, rfl⟩
      cases x with
      | turn => exact .inr ⟨rest, hin ▸ List.suffix_cons _ rest, step_turn_busy hbusy hin⟩
      | reset => exact absurd hin (hreset rest)
      | read idx =>
        exact .inl ⟨_, step_read hheld hin, hport.trans (hostRead_builderFrame idx _),
          herr.trans (hostRead_sameErrors idx _), _, hin⟩
      | write idx v =>
        by_cases hop : idx = regIndex .op
        · subst hop
          exact .inl ⟨_, (step_opWrite hheld hin).trans (exec_decodeOp_busy v hbusy), port_builderFrame s (some v) rest,
            ⟨rfl, rfl, rfl⟩, _, hin⟩
        · exact .inl ⟨_, step_write hheld hin hop, hport.trans (hostWrite_builderFrame idx v _),
            herr.trans (hostWrite_sameErrors idx v _), _, by rw [hostWrite_inputs]; exact hin⟩

/-! ### A build to its end -/

/-- Where the build that began in `t₀` is after `n` steps: on its way or finished, or aborted. -/
def BuildState (t₀ : State) (n : Nat) (t : State) : Prop :=
  (∃ sent, Progress t₀ t sent ∧ sent.length ≤ n ∧ SameErrors t₀ t) ∨ Aborted t₀ t

/-- A step of a build in progress goes on with it, and uses up its plan or the inputs. -/
theorem buildState_step {t₀ s : State} {n : Nat} (hwf : t₀.build.wf = true) (h : BuildState t₀ n s)
    (hreset : .reset ∉ s.inputs) (hbusy : s.busy = true) :
    0 < (plan s).length + s.inputs.length ∧ ∃ t, step s = .next t ∧ (BuildState t₀ (n + 1) t ∧ .reset ∉ t.inputs) ∧
      (t.busy = true → (plan t).length + t.inputs.length < (plan s).length + s.inputs.length) := by
  obtain ⟨sent, hprog, hlen, herr⟩ | hab := h
  case inr => exact absurd (hab.busy.symm.trans hbusy) Bool.false_ne_true
  refine ⟨Nat.add_pos_left (exec_builderInstr_plan hprog.legal hbusy).1 _, ?_⟩
  obtain ⟨t, hstep, hhost⟩ | ⟨rest, hsuffix, hstep⟩ :=
    step_busy_cases hbusy fun rest hin => hreset (hin ▸ List.mem_cons_self)
  · obtain ⟨x, hx⟩ := hhost.inputs
    have hplan := congrArg List.length (plan_congr hhost.frame)
    have hin := congrArg List.length hx
    rw [List.length_cons] at hin
    exact ⟨t, hstep, ⟨.inl ⟨sent, hprog.congr hhost.frame, by omega, herr.trans hhost.errors⟩,
      fun hmem => hreset (hx ▸ List.mem_cons_of_mem x hmem)⟩, fun _ => by omega⟩
  · have hprog' := hprog.congr (port_builderFrame s s.heldOp rest)
    obtain ⟨t, hexec, hcases⟩ := hprog'.exec hwf hbusy
    obtain ⟨_, t', hexec', hless⟩ := exec_builderInstr_plan hprog'.legal hbusy
    cases hexec.symm.trans hexec'
    have hin : t.inputs = rest := (exec_builderInstr_port hexec).1
    have hplan := congrArg List.length (plan_congr (port_builderFrame s s.heldOp rest))
    refine ⟨t, hstep.trans hexec, ⟨?_, fun hmem => hreset (hsuffix.mem (hin ▸ hmem))⟩, fun ht => ?_⟩
    · obtain ⟨a, hprog'', herr'⟩ | ⟨_, _, hab⟩ := hcases
      · exact .inl ⟨_, hprog'', by simpa using hlen, herr.trans ⟨herr'.lastErr, herr'.errInfo, herr'.sticky⟩⟩
      · exact .inr (hab herr.sticky)
    · have hlt := hless ht
      have hrest := hsuffix.length_le
      rw [hin]
      omega

/-- A BUILD ends within its builder steps and one step more for each input, and BUSY stays 1 until then. -/
theorem build_ends {s : State} (h : PassesBuildChecks s) (hreset : .reset ∉ s.inputs) :
    ∃ k t, k ≤ specSteps s + s.inputs.length ∧ core.run k (started s) = .next t ∧ t.busy = false ∧
      BuildState (started s) k t ∧ ∀ j, j < k → ∃ u, core.run j (started s) = .next u ∧ u.busy = true := by
  have ⟨_, _, hrep, _, hwf⟩ := h
  obtain ⟨k, t, hk, hrun, hidle, ⟨hstate, _⟩, hall⟩ := run_until_idle
    (R := fun n t => BuildState (started s) n t ∧ .reset ∉ t.inputs) (m := fun t => (plan t).length + t.inputs.length)
    (fun n u ⟨hu, hin⟩ hbusy => buildState_step hwf hu hin hbusy)
    (n := 0) ⟨.inl ⟨[], started_progress hrep, le_rfl, rfl, rfl, rfl⟩, hreset⟩ rfl
  rw [plan_started_length hrep] at hk
  rw [Nat.zero_add] at hstate
  exact ⟨k, t, hk, hrun, hidle, hstate, hall⟩

/-- What is known of a build that has finished. -/
theorem finished_facts {s t : State} {sent : List Sent} (hrep : s.cfgRepeats ≠ 0)
    (h : Progress (started s) t sent) (herr : SameErrors (started s) t) (hidle : t.busy = false) :
    sent.length = specSteps s ∧ specPulses s ≤ s.build.maxPulses.toNat ∧ t.st = .idle ∧ t.waveValid = true ∧
      t.lastErr = .noError ∧ t.errInfo = 0 ∧ t.sticky = s.sticky ∧ t.rep = s.cfgRepeats := by
  obtain ⟨rs, hrs⟩ := h.spelled
  obtain ⟨hvalid, hreps⟩ := h.finished hidle
  have hsent := h.sent_eq hidle
  have hcap := capacity_of_legal h.legal
  rw [hrs.pulseCount, hsent, weight_sentPulses_started hrep, h.build] at hcap
  have ⟨hst, _⟩ := h.legal
  exact ⟨hsent ▸ plan_started_length hrep, hcap, hst.2 hidle, hvalid, herr.lastErr, herr.errInfo, herr.sticky,
    hreps.trans (congrArg Latch.repeats h.latch)⟩

theorem Aborted.beyond_started {s t : State} (hrep : s.cfgRepeats ≠ 0) (h : Aborted (started s) t) :
    s.build.maxPulses.toNat < specPulses s :=
  weight_sentPulses_started hrep ▸ h.beyond

/-- Settles O60, by what `build_ends` gives in its two cases. -/
theorem buildEndsWhateverTheHostDoes : Obligations.BuildEndsWhateverTheHostDoes := by
  intro ign s h hreset
  have ⟨_, _, hrep, _, _⟩ := h
  obtain ⟨k, t, hk, hrun, hidle, hstate, hall⟩ := build_ends h hreset
  refine ⟨started s, t, k, exec_build_started ign h, hk, hrun, hall, hidle, ?_⟩
  obtain ⟨sent, hprog, _, herr⟩ | hab := hstate
  · obtain ⟨_, hcap, hst, hvalid, hlast, hinfo, hsticky, hreps⟩ := finished_facts hrep hprog herr hidle
    exact ⟨hst, fun _ => ⟨hvalid, hlast, hinfo, hsticky, hreps⟩, fun hgt => absurd hcap (by omega)⟩
  · have hgt := hab.beyond_started hrep
    exact ⟨hab.st, fun hle => absurd hgt (by omega),
      fun _ => ⟨hab.waveValid, hab.pulseCount, hab.total, hab.lastErr, hab.sticky⟩⟩

theorem passesBuildChecks_of_ready {s : State} (h : ReadyToBuild s) : PassesBuildChecks s ∧ s.inputs = [] := by
  obtain ⟨hbusy, _, hin, hvalid, hrep, hper, hwf⟩ := h
  exact ⟨⟨hbusy, hvalid, hrep, hper, hwf⟩, hin⟩

/-- Settles O57: within the capacity there is no abort, and each step sends at most one entry of the plan. -/
theorem buildWithinCapacityFinishesInSpecSteps : Obligations.BuildWithinCapacityFinishesInSpecSteps := by
  intro ign s h hle
  obtain ⟨hpass, hin⟩ := passesBuildChecks_of_ready h
  have ⟨_, _, hrep, _, _⟩ := hpass
  obtain ⟨k, t, hk, hrun, hidle, hstate, hall⟩ := build_ends hpass (by simp [hin])
  rw [hin, List.length_nil, Nat.add_zero] at hk
  obtain ⟨sent, hprog, hlen, herr⟩ | hab := hstate
  · obtain ⟨hsteps, _, hst, hvalid, hlast, hinfo, _, hreps⟩ := finished_facts hrep hprog herr hidle
    obtain rfl : k = specSteps s := by omega
    exact ⟨started s, t, exec_build_started ign hpass, hrun, hidle, hst, hvalid, hlast, hinfo, hreps, hall⟩
  · exact absurd (hab.beyond_started hrep) (by omega)

/-- Settles O58: beyond the capacity a build cannot finish. -/
theorem buildBeyondCapacityAborts : Obligations.BuildBeyondCapacityAborts := by
  intro ign s h hgt
  obtain ⟨hpass, hin⟩ := passesBuildChecks_of_ready h
  have ⟨_, _, hrep, _, _⟩ := hpass
  obtain ⟨k, t, hk, hrun, hidle, hstate, _⟩ := build_ends hpass (by simp [hin])
  rw [hin, List.length_nil, Nat.add_zero] at hk
  obtain ⟨sent, hprog, _, herr⟩ | hab := hstate
  · have ⟨_, hcap, _⟩ := finished_facts hrep hprog herr hidle
    exact absurd hcap (by omega)
  · obtain ⟨c, hc, hc', hinfo⟩ := hab.errInfo
    exact ⟨started s, t, k, c, exec_build_started ign hpass, hk, hrun, hidle, hab.st, hab.waveValid, hab.pulseCount,
      hab.total, hab.lastErr, hab.sticky, hc, hc', hinfo⟩

end Sys2Proof.Machine

/-! ## The finished waveform -/

namespace Sys2Proof.Machine

open Sys2Proof.Claims

/-! ### Until the next build starts -/

theorem run_succ_inv {k : Nat} {s t : State} (h : core.run (k + 1) s = .next t) :
    ∃ u, step s = .next u ∧ core.run k u = .next t := by
  simp only [Host.Core.run] at h
  split at h
  · next u hu => exact ⟨u, hu, h⟩
  · cases h
  · cases h

/-- A run by its last step. -/
theorem run_succ_last {k : Nat} {s t : State} (h : core.run (k + 1) s = .next t) :
    ∃ u, core.run k s = .next u ∧ step u = .next t := by
  induction k generalizing s with
  | zero =>
    obtain ⟨u, hstep, hrun⟩ := run_succ_inv h
    cases hrun
    exact ⟨s, rfl, hstep⟩
  | succ k ih =>
    obtain ⟨u, hstep, hrun⟩ := run_succ_inv h
    obtain ⟨v, hv, hlast⟩ := ih hrun
    exact ⟨v, (run_succ hstep k).trans hv, hlast⟩

/-- The build that began in `t₀` is on its way or has finished, or there is no waveform and none to come. -/
def BuildPhase (t₀ t : State) : Prop :=
  (∃ sent, Progress t₀ t sent) ∨ (t.busy = false ∧ t.waveValid = false)

theorem BuildPhase.congr {t₀ s t : State} (h : BuildPhase t₀ s) (hf : BuilderFrame s t) : BuildPhase t₀ t := by
  obtain ⟨sent, hprog⟩ | ⟨hidle, hvoid⟩ := h
  · exact .inl ⟨sent, hprog.congr hf⟩
  · exact .inr ⟨hf.busy.trans hidle, hf.waveValid.trans hvoid⟩

/-- BUILD leaves no waveform, whether it starts a build or not (43_waveform.md R210). -/
theorem buildWave_waveValid (s : State) : (buildWave s).waveValid = false := by
  obtain ⟨sub, e⟩ | ⟨_, e⟩ := buildWave_cases s <;> rw [e] <;> rfl

/-- A builder row keeps the phase. -/
theorem BuildPhase.builderInstr {t₀ s t : State} (hwf : t₀.build.wf = true) (h : BuildPhase t₀ s)
    (hexec : exec (builderInstr s) s = .next t) : BuildPhase t₀ t := by
  by_cases hbusy : s.busy = true
  · obtain ⟨sent, hprog⟩ | ⟨hidle, _⟩ := h
    · obtain ⟨t', hexec', ⟨a, hprog', _⟩ | ⟨hidle, hvoid, _⟩⟩ := hprog.exec hwf hbusy <;>
        cases hexec.symm.trans hexec'
      · exact .inl ⟨_, hprog'⟩
      · exact .inr ⟨hidle, hvoid⟩
    · exact absurd (hidle.symm.trans hbusy) Bool.false_ne_true
  · rw [Machine.builderInstr, if_neg hbusy] at hexec
    cases hexec
    exact h

/-- A step keeps the phase, unless it starts a build. -/
theorem BuildPhase.step {t₀ s t : State} (hwf : t₀.build.wf = true) (h : BuildPhase t₀ s)
    (hstep : step s = .next t) (hno : s.busy = false → t.busy = false) : BuildPhase t₀ t := by
  have hport held rest : BuildPhase t₀ { s with heldOp := held, inputs := rest } :=
    h.congr (port_builderFrame s held rest)
  cases step_effect hstep with
  | @builder rest _ hexec => exact (hport s.heldOp rest).builderInstr hwf hexec
  | operation hexec =>
    obtain hframe | ⟨_, hbusy, rfl⟩ := (exec_opEffect (decodeOp_not_builderRow _) hexec).builderFrame_or_built
    · exact (hport _ _).congr hframe
    · exact .inr ⟨hno hbusy, buildWave_waveValid _⟩
  | reset => exact .inr ⟨rfl, rfl⟩
  | read => exact (hport s.heldOp _).congr (hostRead_builderFrame _ _)
  | write => exact (hport s.heldOp _).congr (hostWrite_builderFrame _ _ _)

theorem buildPhase_of_run {t₀ t : State} {k : Nat} (hwf : t₀.build.wf = true) (hstart : BuildPhase t₀ t₀)
    (hno : NoSecondBuild k t₀) (hrun : core.run k t₀ = .next t) : BuildPhase t₀ t := by
  induction k generalizing t with
  | zero =>
    cases hrun
    exact hstart
  | succ k ih =>
    obtain ⟨u, hu, hstep⟩ := run_succ_last hrun
    have hphase := ih (fun i j v w hij hj => hno i j v w hij (by omega)) hu
    exact hphase.step hwf hstep fun hidle => hno k (k + 1) u t (by omega) le_rfl hu hrun hidle

/-- A finished waveform spells out the whole plan of its build. -/
theorem finished_spelled {s t : State} {k : Nat} (h : PassesBuildChecks s) (hno : NoSecondBuild k (started s))
    (hrun : core.run k (started s) = .next t) (hvalid : t.waveValid = true) :
    WaveformLegal t ∧ t.latch = (started s).latch ∧ t.build = s.build ∧
      ∃ rs, SpelledBy (plan (started s)) t rs := by
  obtain ⟨_, _, hrep, _, hwf⟩ := h
  have hstart : BuildPhase (started s) (started s) := .inl ⟨[], started_progress hrep⟩
  obtain ⟨sent, hprog⟩ | ⟨_, hvoid⟩ := buildPhase_of_run (t₀ := started s) hwf hstart hno hrun
  · have ⟨_, _, _, _, _, _, hwave⟩ := hprog.legal
    exact ⟨hprog.wave, hprog.latch, hprog.build, hprog.sent_eq (hwave hvalid) ▸ hprog.spelled⟩
  · exact absurd (hvoid.symm.trans hvalid) Bool.false_ne_true

/-! ### Durations -/

/-- Any build is short enough for 64 bits (43_waveform.md R244). -/
theorem specTicks_le (s : State) : specTicks s ≤ 255 * (255 * 429) := by
  have hones : onesSent s ≤ 80 := popcount10_le _
  have hn := s.cfgRepeats.isLt
  have hhigh := s.build.highCount.isLt
  have hon : (12 + onesSent s) * s.build.highCount.toNat ≤ 92 * 255 := Nat.mul_le_mul (by omega) (by omega)
  have hoff : (80 - onesSent s) * s.build.lowCount.toNat ≤ 80 * 255 := Nat.mul_le_mul (by omega) (by omega)
  have hgap : s.build.gapCount.toNat * (s.cfgGapMult.toNat + 1) ≤ 255 * 256 := Nat.mul_le_mul (by omega) (by omega)
  have hmul {a b c : Nat} (ha : a ≤ s.cfgRepeats.toNat) (hb : b ≤ c) : a * b ≤ 255 * c :=
    Nat.mul_le_mul (by omega) hb
  have hpred := Nat.sub_le s.cfgRepeats.toNat 1
  simp only [specTicks]
  split
  · refine (Nat.add_le_add (hmul (c := 255 * 428) le_rfl ?_) (hmul (c := 255) hpred ?_)).trans le_rfl <;> omega
  · refine (Nat.add_le_add (hmul (c := 255 * 172) le_rfl ?_) (hmul (c := 255 * 257) hpred ?_)).trans le_rfl <;> omega

/-- No duration of at most the ticks of a build overflows (43_waveform.md R244). -/
theorem duration_toNat {l : Latch} {s : State} {n : Nat} (hn : n ≤ specTicks s) :
    (duration l n).toNat = n * l.period.toNat := by
  have hticks := specTicks_le s
  have hper := l.period.isLt
  have hmul : n * l.period.toNat ≤ 255 * (255 * 429) * 65535 := Nat.mul_le_mul (by omega) (by omega)
  rw [duration, BitVec.toNat_ofNat, Nat.mod_eq_of_lt (by omega)]

theorem durationSum_eq_sum (s : State) (n : Nat) :
    durationSum s n = ((List.range n).map fun i => (pmemRead s i).dur).sum := by
  induction n with
  | zero => rfl
  | succ n ih => rw [durationSum, ih, List.range_succ, List.map_append, List.sum_append]; simp

theorem sum_duration (l : Latch) (rs : List (Level × Nat)) :
    (rs.map fun r => (runPulse l r).dur).sum = duration l (runTicks rs).length := by
  induction rs with
  | nil => simp [runTicks, duration]
  | cons r rs ih =>
    have hticks : (runTicks (r :: rs)).length = r.2 + (runTicks rs).length := by simp [runTicks]
    rw [List.map_cons, List.sum_cons, ih, hticks, ← duration_add]
    rfl

theorem SpelledBy.durationSum {sent : List Sent} {s : State} {rs : List (Level × Nat)} (h : SpelledBy sent s rs) :
    durationSum s s.pulseCount.toNat = duration s.latch (runTicks rs).length := by
  have hdur := congrArg (fun ps => (ps.map Pulse.dur).sum) h.pulses
  simp only [pulseList, List.map_map] at hdur
  rw [durationSum_eq_sum, ← sum_duration]
  exact hdur

theorem length_le_runTicks {r : Level × Nat} {rs : List (Level × Nat)} (h : r ∈ rs) : r.2 ≤ (runTicks rs).length := by
  rw [runTicks, List.length_flatMap]
  exact List.single_le_sum (fun _ _ => Nat.zero_le _) _ (List.mem_map.2 ⟨r, h, List.length_replicate⟩)

theorem runTicks_length {s t : State} {rs : List (Level × Nat)} (h : PassesBuildChecks s)
    (hrs : SpelledBy (plan (started s)) t rs) (hbuild : t.build = s.build) : (runTicks rs).length = specTicks s := by
  obtain ⟨_, _, hrep, _, hwf⟩ := h
  rw [hrs.ticks, hbuild, planTicks_started_length hrep hwf]

/-- Settles O55: the pulse count and the ticks are those of the plan, and TOTAL is their duration, short enough for 64
bits. -/
theorem finishedBuildHasSpecPulsesAndTicks : Obligations.FinishedBuildHasSpecPulsesAndTicks := by
  intro ign s t0 t k h hexec hno hrun hvalid
  cases hexec.symm.trans (exec_build_started ign h)
  have ⟨_, _, hrep, _, _⟩ := h
  obtain ⟨hwave, hlatch, hbuild, rs, hrs⟩ := finished_spelled h hno hrun hvalid
  have ⟨_, _, _, _, htotal, _⟩ := hwave
  refine ⟨hrs.pulseCount.trans (weight_sentPulses_started hrep), ?_, htotal⟩
  rw [htotal, hrs.durationSum, runTicks_length h hrs hbuild, duration_toNat le_rfl, hlatch]
  rfl

/-! ### The pulses tick by tick -/

theorem pulseTicks_eq (per : Nat) (s : State) :
    pulseTicks per s = (pulseList s).flatMap fun p => List.replicate (p.dur.toNat / per) (p.on, p.off) := by
  rw [pulseTicks, pulseList, List.flatMap_map]

/-- Pulses whose durations do not overflow, spelled out, are their runs spelled out. -/
theorem SpelledBy.pulseTicks {sent : List Sent} {s : State} {rs : List (Level × Nat)} (h : SpelledBy sent s rs)
    (hper : 0 < s.latch.period.toNat)
    (hdur : ∀ r ∈ rs, (runPulse s.latch r).dur.toNat = r.2 * s.latch.period.toNat) :
    pulseTicks s.latch.period.toNat s = (runTicks rs).map (masks s.latch) := by
  rw [pulseTicks_eq, h.pulses, List.flatMap_map, runTicks, List.map_flatMap]
  refine List.flatMap_congr fun r hr => ?_
  rw [hdur r hr, Nat.mul_div_cancel _ hper, List.map_replicate]
  rfl

theorem SpelledBy.pmemRead {sent : List Sent} {s : State} {rs : List (Level × Nat)} (h : SpelledBy sent s rs)
    {i : Nat} (hi : i < s.pulseCount.toNat) : ∃ r ∈ rs, pmemRead s i = runPulse s.latch r := by
  have hmem : Machine.pmemRead s i ∈ pulseList s := List.mem_map.2 ⟨i, List.mem_range.2 hi, rfl⟩
  rw [h.pulses] at hmem
  obtain ⟨r, hr, he⟩ := List.mem_map.1 hmem
  exact ⟨r, hr, he.symm⟩

/-- Neighbouring pulses are one ON and one OFF (43_waveform.md R243). -/
theorem neighbours_differ {s : State} (h : WaveformLegal s) {i : Nat} (hi : i + 1 < s.pulseCount.toNat) :
    ((pmemRead s i).on, (pmemRead s i).off) ≠ ((pmemRead s (i + 1)).on, (pmemRead s (i + 1)).off) := by
  obtain ⟨hp, _⟩ := (waveformLegal_iff s).1 h
  obtain heven | hodd := Nat.mod_two_eq_zero_or_one i
  · rw [hp.onPulse i (by omega) heven, hp.offPulse (i + 1) hi (by omega)]
    exact masks_on_ne_off s.latch
  · rw [hp.offPulse i (by omega) hodd, hp.onPulse (i + 1) hi (by omega)]
    exact (masks_on_ne_off s.latch).symm

/-- Settles O56: the pulses are the runs of the plan's ticks, which are the tick sequence, and each run has a tick. -/
theorem finishedBuildMatchesTheTickSequence : Obligations.FinishedBuildMatchesTheTickSequence := by
  intro ign s t0 t k h hexec hno hrun hvalid
  cases hexec.symm.trans (exec_build_started ign h)
  have ⟨_, _, hrep, hper, _⟩ := h
  obtain ⟨hwave, hlatch, hbuild, rs, hrs⟩ := finished_spelled h hno hrun hvalid
  have hperiod : t.latch.period = s.cfgPeriod := congrArg Latch.period hlatch
  have hpos : 0 < t.latch.period.toNat := by
    rw [hperiod]
    exact Nat.pos_of_ne_zero fun h0 => hper (BitVec.eq_of_toNat_eq h0)
  have hdur : ∀ r ∈ rs, (runPulse t.latch r).dur.toNat = r.2 * t.latch.period.toNat := fun r hr =>
    duration_toNat ((length_le_runTicks hr).trans_eq (runTicks_length h hrs hbuild))
  refine ⟨congrArg Latch.pin hlatch, congrArg Latch.invert hlatch, ?_, fun i hi => ?_,
    fun i hi => neighbours_differ hwave hi⟩
  · rw [← hperiod, hrs.pulseTicks hpos hdur, hrs.ticks, hbuild, planTicks_started hrep]
  · obtain ⟨r, hr, he⟩ := hrs.pmemRead hi
    rw [he, hdur r hr, ← hperiod]
    exact ⟨Nat.mul_pos (hrs.pos r hr) hpos, Nat.mul_mod_left _ _⟩

end Sys2Proof.Machine

/-! ## Errors: what `raise` records, and what every step keeps of the record -/

namespace Sys2Proof.Machine

open Sys2Proof.Claims

/-! ### The fields of ERRINFO and the bits of STICKY -/

theorem errWord_toNat (a b : Byte) (sub : BitVec 4) (t : BuilderState) : (errWord a b sub t).toNat =
    a.toNat + 0x100 * b.toNat + 0x10000 * sub.toNat + 0x1000000 * (stateCode t).toNat := by
  rw [errWord, BitVec.toNat_ofNat]
  omega

/-- ERRINFO holds A, B, SUB and STATE, and its reserved bits are 0 (10_state.md R26). -/
theorem errWord_fields (a b : Byte) (sub : BitVec 4) (t : BuilderState) :
    (errWord a b sub t).extractLsb' 0 8 = a ∧ (errWord a b sub t).extractLsb' 8 8 = b ∧
      (errWord a b sub t).extractLsb' 16 4 = sub ∧ (errWord a b sub t).extractLsb' 20 4 = 0 ∧
      (errWord a b sub t).extractLsb' 24 3 = stateCode t ∧ (errWord a b sub t).extractLsb' 27 5 = 0 := by
  have hv := errWord_toNat a b sub t
  exact ⟨extractLsb'_eq_of_div_mod (by omega), extractLsb'_eq_of_div_mod (by omega),
    extractLsb'_eq_of_div_mod (by omega), extractLsb'_eq_zero_of_div_mod (by omega),
    extractLsb'_eq_of_div_mod (by omega), extractLsb'_eq_zero_of_div_mod (by omega)⟩

/-- No bit of ERRINFO outside its fields. -/
theorem errWord_and_reserved (a b : Byte) (sub : BitVec 4) (t : BuilderState) :
    errWord a b sub t &&& 0xF8F00000 = 0 := by
  obtain ⟨_, _, _, h20, _, h27⟩ := errWord_fields a b sub t
  have hreserved : ∀ i < 32, (0x070FFFFF : Word).getLsbD i = false →
      (20 ≤ i ∧ i < 20 + 4) ∨ (27 ≤ i ∧ i < 27 + 5) := by decide
  refine and_not_eq_zero_of_getLsbD (m := 0x070FFFFF) fun i hi hm => ?_
  obtain ⟨hlo, hhi⟩ | ⟨hlo, hhi⟩ := hreserved i hi hm
  · exact getLsbD_eq_false_of_extractLsb' h20 hlo hhi
  · exact getLsbD_eq_false_of_extractLsb' h27 hlo hhi

/-- Code `c` has bit `c - 1` of the STICKY field, and NONE has no bit (10_state.md R25). -/
theorem stickyBit_getElem (e : ErrCode) (k : Fin 6) :
    (stickyBit e)[k] = decide (k.val + 1 = (errCode e).toNat) := by
  revert k
  cases e <;> decide

/-- Settles O38: ERRINFO by its fields, STICKY by the bit of the code. -/
theorem raiseRecordsCodePayloadAndStickyBit : Obligations.RaiseRecordsCodePayloadAndStickyBit := by
  intro e a b sub t s r
  obtain ⟨ha, hb, hsub, h20, hst, h27⟩ := errWord_fields a b sub t
  refine ⟨rfl, ha, hb, hsub, h20, hst, h27, fun k => ?_⟩
  rw [← stickyBit_getElem]
  exact BitVec.getElem_or k.isLt

/-! ### The invariant of the error record -/

/-- STATUS bit 21, the bit of DeviceError, is set by that code alone (60_exceptions.md R266). -/
theorem stickyBit_device_bit {e : ErrCode} (he : e ≠ .device) : (stickyBit e)[4] = false := by
  cases e
  case device => exact absurd rfl he
  all_goals rfl

/-- With BUSY 0 an error of the block's own leaves a legal record, whatever the last one was (60_exceptions.md R264). -/
theorem raise_errorsLegal {e : ErrCode} {a b : Byte} {sub : BitVec 4} {t : BuilderState} {s : State}
    (hnone : e ≠ .noError) (hdevice : e ≠ .device) (hbusy : s.busy = false) (hbit : s.sticky[4] = false) :
    ErrorsLegal (raise e a b sub t s) := by
  refine ⟨hdevice, ?_, ?_, fun h => absurd h hnone, errWord_and_reserved a b sub t, fun h => ?_⟩
  · rw [raise_sticky, BitVec.getElem_or, hbit, stickyBit_device_bit hdevice, Bool.or_self]
  · rw [raise_sticky, raise_lastErr]
    ext i
    simp +contextual
  · exact absurd (hbusy.symm.trans h) Bool.false_ne_true

/-- An operation that completes leaves a legal record, whatever the last one was (60_exceptions.md R268). -/
theorem succeed_errorsLegal {s : State} (hbit : s.sticky[4] = false) : ErrorsLegal (succeed s) :=
  ⟨nofun, hbit, BitVec.and_zero, fun _ => rfl, BitVec.zero_and, fun _ => rfl⟩

/-- The same record is legal again; while a build is in progress it must hold no error. -/
theorem SameErrors.errorsLegal {s t : State} (he : SameErrors s t) (hs : ErrorsLegal s)
    (hbusy : t.busy = true → s.lastErr = .noError) : ErrorsLegal t := by
  obtain ⟨hdevice, hbit, hsticky, hnone, hreserved, _⟩ := hs
  obtain ⟨hlast, hinfo, hst⟩ := he
  unfold ErrorsLegal
  rw [hlast, hinfo, hst]
  exact ⟨hdevice, hbit, hsticky, hnone, hreserved, hbusy⟩

theorem Pulsed.sameErrors {s t : State} (h : Pulsed s t) : SameErrors s t := by
  rw [h.frame]
  constructor <;> rfl

/-- The abort ends the build and records its own error (43_waveform.md R229). -/
theorem capacityAbort_errorsLegal {s : State} (hbit : s.sticky[4] = false) : ErrorsLegal (capacityAbort s) :=
  raise_errorsLegal (s := { s with busy := false }) nofun nofun rfl hbit

/-- A builder row leaves the record, or is aborted. -/
theorem BuilderEffect.errorsLegal {s t : State} {i : Instr} (he : BuilderEffect s i t) (hs : ErrorsLegal s)
    (hnone : s.lastErr = .noError) : ErrorsLegal t := by
  obtain ⟨s₀, u, hstart, hpulses, hend⟩ := he.shape
  have hu := hstart.sameErrors.trans hpulses.sameErrors
  obtain hend | rfl := hend
  · exact (hu.trans hend.sameErrors).errorsLegal hs fun _ => hnone
  · obtain ⟨_, hbit, _⟩ := hs
    refine capacityAbort_errorsLegal ?_
    rw [hu.sticky]
    exact hbit

/-- With BUSY 0 an operation leaves the record, completes, or records one error. -/
theorem OpEffect.errorsLegal {s t : State} {i : Instr} (he : OpEffect s i t) (hs : ErrorsLegal s)
    (hbusy : s.busy = false) : ErrorsLegal t := by
  have ⟨_, hbit, _⟩ := hs
  cases he with
  | unchanged | held => exact hs
  | staged | encoded | decoded => exact succeed_errorsLegal hbit
  | illegal | encodeFailed | decodeFailed | noBuffer => exact raise_errorsLegal nofun nofun hbusy hbit
  | loaded =>
    obtain e | e := loadBuffer_cases s <;> rw [e]
    · exact raise_errorsLegal nofun nofun hbusy hbit
    · exact succeed_errorsLegal hbit
  | built =>
    obtain ⟨sub, e⟩ | ⟨_, e⟩ := buildWave_cases s <;> rw [e]
    · exact raise_errorsLegal nofun nofun hbusy hbit
    · exact succeed_errorsLegal hbit

/-- With BUSY 0 the builder has no step (43_waveform.md R220). -/
theorem builderInstr_idle {s : State} (hbusy : s.busy = false) : builderInstr s = .stIdle := by
  rw [builderInstr, hbusy]
  rfl

theorem exec_builderInstr_errorsLegal {s t : State} (hs : ErrorsLegal s) (h : exec (builderInstr s) s = .next t) :
    ErrorsLegal t := by
  cases hbusy : s.busy with
  | false =>
    rw [builderInstr_idle hbusy] at h
    cases h
    exact hs
  | true =>
    have ⟨_, _, _, _, _, hnone⟩ := hs
    exact (exec_builderEffect (builderInstr_isBuilderRow s) h).errorsLegal hs (hnone hbusy)

theorem exec_decodeOp_errorsLegal {w : Word} {s t : State} (hs : ErrorsLegal s) (h : exec (decodeOp w) s = .next t) :
    ErrorsLegal t := by
  cases hbusy : s.busy with
  | false => exact (exec_opEffect (decodeOp_not_builderRow w) h).errorsLegal hs hbusy
  | true =>
    rw [exec_decodeOp_busy w hbusy] at h
    cases h
    exact hs

/-- Settles O49, by the inversion of the step: with BUSY 1 only an abort records an error, and it ends the build; with
BUSY 0 an operation records an error of its own, or none. -/
theorem stepKeepsErrorsLegal : Obligations.StepKeepsErrorsLegal := by
  intro s t hs h
  cases step_effect h with
  | @builder rest _ h => exact exec_builderInstr_errorsLegal (s := { s with inputs := rest }) hs h
  | @operation _ held rest _ h =>
    exact exec_decodeOp_errorsLegal (s := { s with heldOp := held, inputs := rest }) hs h
  | reset => exact resetOf_errorsLegal s.build
  | read => exact hs
  | write =>
    rw [hostWrite_frame]
    exact hs

end Sys2Proof.Machine

/-! ## A legal state never stops -/

namespace Sys2Proof.Machine

open Sys2Proof.Claims

/-- ENCODE answers for every kind (41_codec.md R140, R149). -/
theorem encodeByKind_answers (s : State) : ∃ t, encodeByKind s = .next t := by
  rw [encodeByKind_eq_exec_decodeKind, exec_of_encode_cmdKind (decodeKind_hasCode s.cmdKind).2]
  split <;> exact ⟨_, rfl⟩

/-- DECODE answers for every buffer, and without one (41_codec.md R161). -/
theorem decodeBuffer_answers {s : State} (hbusy : s.busy = false) : ∃ t, decodeBuffer s = .next t := by
  rw [← exec_decode_idle 0 hbusy]
  cases hv : s.bufValid with
  | false => exact ⟨_, exec_decode_of_not_bufValid 0 hbusy hv⟩
  | true =>
    rw [exec_decode_of_bufValid 0 hbusy hv, decodeResult]
    split <;> exact ⟨_, rfl⟩

theorem runOpcode_answers (o imm : Byte) {s : State} (hbusy : s.busy = false) : ∃ t, runOpcode o imm s = .next t := by
  unfold runOpcode
  split_ifs
  on_goal 4 => exact encodeByKind_answers s
  on_goal 4 => exact decodeBuffer_answers hbusy
  all_goals exact ⟨_, rfl⟩

/-- An operation word is held with BUSY 1 and runs its opcode with BUSY 0; either way it answers (20_memory.md R64). -/
theorem exec_decodeOp_answers (w : Word) (s : State) : ∃ t, exec (decodeOp w) s = .next t := by
  cases hbusy : s.busy with
  | false =>
    rw [exec_decodeOp_idle w hbusy]
    exact runOpcode_answers _ _ hbusy
  | true => exact ⟨_, exec_decodeOp_busy w hbusy⟩

/-- The builder's step of a legal state answers: SendByte has a byte to send (10_state.md R52). -/
theorem exec_builderInstr_answers {s : State} (hs : Legal s) : ∃ t, exec (builderInstr s) s = .next t := by
  cases hbusy : s.busy with
  | false => exact ⟨s, by rw [builderInstr_idle hbusy]; rfl⟩
  | true =>
    obtain ⟨a, ha⟩ := rowSends_builderInstr hs hbusy
    rw [exec_row ha]
    exact thenStep_next _ _

/-- What `fetch` gives a step to run: the enabled builder row, or an operation word (20_memory.md R68). -/
def RunsRowOrOperation (s : State) : Fetched → Prop
  | .instr i s' => (i = builderInstr s ∧ ∃ rest, s' = { s with inputs := rest }) ∨ ∃ w, i = decodeOp w
  | .done _ => True

theorem fetchInput_runs (s : State) : RunsRowOrOperation s (fetchInput s) := by
  unfold fetchInput
  split
  · exact .inl ⟨rfl, s.inputs, rfl⟩
  · exact .inl ⟨rfl, _, rfl⟩
  · exact trivial
  · exact trivial
  · split
    · exact .inr ⟨_, rfl⟩
    · exact trivial

theorem fetchHeld_runs (w : Word) (s : State) : RunsRowOrOperation s (fetchHeld w s) := by
  unfold fetchHeld
  split
  · exact trivial
  · split
    · exact .inl ⟨rfl, takeTurn_eq s⟩
    · exact .inr ⟨w, rfl⟩

theorem fetch_runs (s : State) : RunsRowOrOperation s (fetch s) := by
  unfold fetch
  split
  · exact fetchHeld_runs _ s
  · exact fetchInput_runs s

/-- Settles O51: a step completes an access, runs an operation, which always answers, or runs the enabled builder row,
which answers in a legal state. -/
theorem legalStateNeverStops : Obligations.LegalStateNeverStops := by
  intro s hs
  have hruns := fetch_runs s
  obtain ⟨i, s', hfetch, hstep⟩ | ⟨s', _, hstep⟩ := step_cases s
  · rw [hfetch] at hruns
    unfold Safe
    rw [hstep]
    obtain ⟨rfl, rest, rfl⟩ | ⟨w, rfl⟩ := hruns
    · exact exec_builderInstr_answers (s := { s with inputs := rest }) hs
    · exact exec_decodeOp_answers w s'
  · exact ⟨s', hstep⟩

end Sys2Proof.Machine

/-! ## Reset -/

namespace Sys2Proof.Machine

/-- Settles O10: every field of the table of 70_reset_and_hazards.md R290 is read off the reset state of a build. -/
theorem resetValuesAreTheSpecs : Obligations.ResetValuesAreTheSpecs := by
  refine ⟨rfl, rfl, fun b => ?_⟩
  and_intros <;> rfl

/-- The reset input comes before a held write, which it discards, and before the builder, whatever BUSY is
(70_reset_and_hazards.md R293). -/
theorem step_reset {s : State} {rest : List Input} (hin : s.inputs = .reset :: rest) :
    step s = .next (applyReset { s with inputs := rest }) := by
  cases hheld : s.heldOp with
  | none => simp [step, fetch, fetchInput, hheld, hin]
  | some w => simp [step, fetch, fetchHeld, hheld, hin]

/-- Settles O11: the step is the reset, whatever was held or being built, and the reset starts from the reset state of
the same build. -/
theorem resetInputRestoresTheResetValues : Obligations.ResetInputRestoresTheResetValues := by
  intro s rest hin
  exact ⟨applyReset { s with inputs := rest }, step_reset hin, rfl⟩

end Sys2Proof.Machine

/-! ## Codes placed where the step fetches -/

namespace Sys2Proof.Machine

open Sys2Proof.Laws.TableRow (keyOf_toNat)

/-! ### Operation words, kinds and builder states -/

/-- A placed operation word is the host's next access, a write to OP (20_memory.md R64; log 17). -/
theorem step_placeCode_opWord (w : Word) (s : State) :
    step (placeCode (.opWord w) s) = exec (decodeOp w) { s with heldOp := none } :=
  step_opWrite (s := placeCode (.opWord w) s) rfl rfl

/-- A placed kind runs through ENCODE, which comes as a write to OP with BUSY 0 (30_encoding.md R87). -/
theorem step_placeCode_cmdKind (k : BitVec 4) (s : State) :
    step (placeCode (.cmdKind k) s) = exec (decodeKind k) { placeCode (.cmdKind k) s with inputs := s.inputs } := by
  have hencode : decodeOp (opWordOf 0x03 0) = .encode 0 := decodeOp_eq_of_encode rfl
  rw [step_opWrite (s := placeCode (.cmdKind k) s) rfl rfl, hencode]
  exact encodeRunsTheRowOfItsKind 0 { placeCode (.cmdKind k) s with inputs := s.inputs } rfl

/-- A turn with nothing held is the builder's, whatever BUSY is (43_waveform.md R220). -/
theorem step_turn {s : State} {rest : List Input} (hheld : s.heldOp = none) (hin : s.inputs = .turn :: rest) :
    step s = exec (builderInstr s) { s with inputs := rest } := by
  simp [step, fetch, fetchInput, hheld, hin]

/-- The row that a placed state code enables is the row with that code (30_encoding.md R89). -/
theorem builderInstr_placeCode {c : BitVec 3} {i : Instr} (hcode : encode i = .builderState c) (s : State) :
    builderInstr (placeCode (.builderState c) s) = i := by
  cases i <;> cases hcode <;> rfl

theorem step_placeCode_builderState {c : BitVec 3} {i : Instr} (hdec : decodeState c = .ok i) (s : State) :
    step (placeCode (.builderState c) s) = exec i { placeCode (.builderState c) s with inputs := s.inputs } := by
  obtain ⟨hback, -⟩ := decodedCodeEncodesBack
  obtain ⟨-, hcode⟩ := hback (.builderState c) i hdec
  rw [step_turn (s := placeCode (.builderState c) s) rfl rfl, builderInstr_placeCode hcode]

/-! ### Keys -/

/-- A key is its class and its param (30_encoding.md R93). -/
theorem keyOf_extractLsb' (k : BitVec 16) : keyOf (k.extractLsb' 8 8) (k.extractLsb' 0 8) = k := by
  refine BitVec.eq_of_toNat_eq ?_
  simp only [keyOf_toNat, extractLsb'_toNat_eq_div_mod]
  omega

/-- DECODE's param of the two nibbles of a param is that param (30_encoding.md R81, 41_codec.md R160). -/
theorem paramOf_nibbles {b : Bytes10} {p : Byte} (h0 : b.b0 = paramHigh p) (h1 : b.b1 = paramLow p) :
    paramOf b = p := by
  have hhigh : b.b0.toNat = p.toNat / 16 := by
    rw [h0, paramHigh_eq]
    exact Nat.mod_eq_of_lt (by omega)
  have hlow : b.b1.toNat = p.toNat % 16 := by
    rw [h1, paramLow_eq]
    exact Nat.mod_eq_of_lt (by omega)
  refine BitVec.eq_of_toNat_eq ?_
  rw [paramOf_toNat_of_nibbles (by omega) (by omega), hhigh, hlow]
  exact Nat.div_add_mod p.toNat 16

/-- A placed key is the one that DECODE reads from the buffer (41_codec.md R160, R161). -/
theorem keyOf_placeCode_decodeKey (k : BitVec 16) (s : State) :
    keyOf (placeCode (.decodeKey k) s).buf.b3 (paramOf (placeCode (.decodeKey k) s).buf) = k := by
  rw [paramOf_nibbles (b := (placeCode (.decodeKey k) s).buf) rfl rfl]
  exact keyOf_extractLsb' k

/-- A placed key runs through DECODE, which comes as a write to OP with BUSY 0 (30_encoding.md R93). -/
theorem step_placeCode_decodeKey (k : BitVec 16) (s : State) :
    step (placeCode (.decodeKey k) s) =
      exec (decodeKey k) { placeCode (.decodeKey k) s with inputs := s.inputs } := by
  have hdecode : decodeOp (opWordOf 0x04 0) = .decode 0 := decodeOp_eq_of_encode rfl
  have hrow := decodeRunsTheRowOfItsKey 0 { placeCode (.decodeKey k) s with inputs := s.inputs } rfl rfl
  rw [keyOf_placeCode_decodeKey] at hrow
  rw [step_opWrite (s := placeCode (.decodeKey k) s) rfl rfl, hdecode]
  exact hrow

/-- Settles O7, format by format: a word comes as a write to OP, a kind through ENCODE, a key through DECODE, a state
with the builder's turn. -/
theorem placedCodeRunsItsRow : Obligations.PlacedCodeRunsItsRow :=
  fun s => ⟨(step_placeCode_opWord · s), (step_placeCode_cmdKind · s), (step_placeCode_decodeKey · s),
    fun _ _ hdec => step_placeCode_builderState hdec s⟩

end Sys2Proof.Machine

/-! ## OP writes while BUSY, and the host's other accesses -/

namespace Sys2Proof.Machine

/-- Of the inputs the builder takes none but a turn: the host's next access stays (20_memory.md R64; log 13). -/
theorem takeTurn_of_not_turn {s : State} (hturn : ∀ rest, s.inputs ≠ .turn :: rest) : takeTurn s = s := by
  unfold takeTurn
  split
  · next rest hin => exact absurd hin (hturn rest)
  · rfl

/-- Settles O8, by the rules for a word that is written and for one that is held. -/
theorem opWriteWhileBusyIsHeld : Obligations.OpWriteWhileBusyIsHeld := by
  refine ⟨fun w _ => exec_decodeOp_busy w, fun w s hheld hbusy hreset hturn => ?_, fun w _ => step_heldOp_idle⟩
  rw [step_heldOp_busy hheld hbusy hreset, takeTurn_of_not_turn hturn]

/-- Settles O9: neither rule of the port's accesses asks for BUSY. -/
theorem otherHostAccessesCompleteAtOnce : Obligations.OtherHostAccessesCompleteAtOnce :=
  fun _ _ hheld => ⟨fun _ => step_read hheld, fun _ _ hidx hin => step_write hheld hin hidx⟩

end Sys2Proof.Machine
